-- ==== Sys2Proof/Word.lean ====
section
/-! DEFINITION. The widths of the spec's values (00_scope.md R5, R8). -/

namespace Sys2Proof

/-- A byte on the bus, and a sensor command byte (format S, R70). -/
abbrev Byte := BitVec 8

/-- A calibration word or PROM word (CAL_W = 16, R5). -/
abbrev Word := BitVec 16

/-- A raw sample (ADC_W = 24, R5). -/
abbrev Sample := BitVec 24

/-- A checksum (CRC_W = 4, R5), and a request code (format H, R70). -/
abbrev Nibble := BitVec 4

/-- The RESULT register and the STATUS word (RES_W = 32, R5, R31). -/
abbrev Result := BitVec 32

end Sys2Proof
end

