-- ==== Sys2Proof/Syntax.lean ====
section
/-! DEFINITION. The instructions: one constructor per row of spec/opcode_table.json. -/

namespace Sys2Proof

/-- The CCB operation set (R2): the host requests of format H (R72, R73) and the sensor bus operations of format S
(R75). A reserved request carries its whole code, since LAST_REQ records it (R31, D29). -/
inductive Instr where
  /-- INIT, REQ = 0x1 (R171). -/
  | init
  /-- READ_T, REQ = 0x2 (R172). -/
  | readT
  /-- READ_P, REQ = 0x3 (R173). -/
  | readP
  /-- The reserved code 0x0 (R174). -/
  | reserved0
  /-- The reserved codes 0x4 to 0x7 (R174). -/
  | reserved4to7 (code : Nibble)
  /-- The reserved codes 0x8 to 0xF (R174). -/
  | reserved8toF (code : Nibble)
  /-- SENSOR_RESET, CMD = 0x1E (R100). -/
  | sensorReset
  /-- PROM_READ 1, CMD = 0xA2 (R101). -/
  | promRead1
  /-- PROM_READ 2, CMD = 0xA4 (R101). -/
  | promRead2
  /-- PROM_READ 3, CMD = 0xA6 (R101). -/
  | promRead3
  /-- PROM_READ 4, CMD = 0xA8 (R101). -/
  | promRead4
  /-- PROM_READ 5, CMD = 0xAA (R101). -/
  | promRead5
  /-- PROM_READ 6, CMD = 0xAC (R101). -/
  | promRead6
  /-- PROM_READ_CRC, CMD = 0xAE (R102). -/
  | promReadCrc
  /-- CONV_D1, CMD = 0x48 (R120). -/
  | convD1
  /-- CONV_D2, CMD = 0x58 (R121). -/
  | convD2
  /-- ADC_READ, CMD = 0x00 (R122). -/
  | adcRead
  /-- PROM_READ 0, CMD = 0xA0, under DATASHEET8 only (R103). -/
  | promRead0
  deriving DecidableEq, Repr

end Sys2Proof
end

