-- ==== Sys2Proof/WellFormed.lean ====
section
/-! DEFINITION. Which terms of Instr are instructions of the CCB: the code a reserved request carries lies in its row
of the opcode table (30_encoding.md R72, R73). -/

namespace Sys2Proof

/-- A reserved request's code is one of its row's codes; every other constructor has no operand (R71, R75). -/
def Instr.wf : Instr → Bool
  | .reserved4to7 code => 0x4#4 ≤ code && code ≤ 0x7#4
  | .reserved8toF code => 0x8#4 ≤ code
  | .init | .readT | .readP | .reserved0 => true
  | .sensorReset | .promRead0 | .promReadCrc => true
  | .promRead1 | .promRead2 | .promRead3 | .promRead4 | .promRead5 | .promRead6 => true
  | .convD1 | .convD2 | .adcRead => true

end Sys2Proof
end

