-- ==== Sys2Proof/Decode.lean ====
section
/-! DEFINITION. Decoding and encoding of both formats (30_encoding.md R70 to R79), and the opcode table as rows. -/

namespace Sys2Proof

/-- A word on one of the two ports. The port fixes the length: a request code on the request port (format H) or a
command byte on the bus (format S), R70. -/
inductive PortWord where
  | request (code : Nibble)
  | command (cmd : Byte)
  deriving DecidableEq, Repr

/-- Why a word is no instruction. Only a command byte can fail to be one (R78, R79). -/
inductive DecodeError where
  /-- A byte outside the table of R75. -/
  | commandOutsideTable (cmd : Byte)
  deriving DecidableEq, Repr

/-- The request port's decoder, total on the four bits (R72, R73, R79). -/
def decodeRequest (code : Nibble) : Instr :=
  if code = 0x1#4 then .init
  else if code = 0x2#4 then .readT
  else if code = 0x3#4 then .readP
  else if code = 0x0#4 then .reserved0
  else if code.extractLsb' 2 2 = 0b01#2 then .reserved4to7 code
  else .reserved8toF code

/-- Sub-format P (R74, R76): bits 7:4 are 1010 and bit 0 is 0. -/
def isPromRead (cmd : Byte) : Bool :=
  cmd.extractLsb' 4 4 = 0b1010#4 && cmd.extractLsb' 0 1 = 0b0#1

/-- The PROM index `n = CMD[3:1]` of a sub-format P command (R76). -/
def promIndex (cmd : Byte) : BitVec 3 :=
  cmd.extractLsb' 1 3

/-- The PROM read of each index (R62, R75): index 7 is the checksum slot. -/
def promReadOf (n : BitVec 3) : Instr :=
  match n.toNat with
  | 0 => .promRead0
  | 1 => .promRead1
  | 2 => .promRead2
  | 3 => .promRead3
  | 4 => .promRead4
  | 5 => .promRead5
  | 6 => .promRead6
  | _ => .promReadCrc

/-- The command byte's decoder (R75, R76); a byte outside the table is rejected by name (R78). -/
def decodeCommand (cmd : Byte) : Except DecodeError Instr :=
  if isPromRead cmd then .ok (promReadOf (promIndex cmd))
  else if cmd = 0x1E#8 then .ok .sensorReset
  else if cmd = 0x48#8 then .ok .convD1
  else if cmd = 0x58#8 then .ok .convD2
  else if cmd = 0x00#8 then .ok .adcRead
  else .error (.commandOutsideTable cmd)

/-- The decoder: the port says which format the word has (R70). -/
def decode : PortWord → Except DecodeError Instr
  | .request code => .ok (decodeRequest code)
  | .command cmd => decodeCommand cmd

/-- `CMD = 0xA0 | (n << 1)` (R76). -/
def promCommand (n : BitVec 3) : Byte :=
  0xA0#8 ||| (n.setWidth 8 <<< 1)

/-- The encoder, from R72, R75 and R76. -/
def encode : Instr → PortWord
  | .init => .request 0b0001#4
  | .readT => .request 0b0010#4
  | .readP => .request 0b0011#4
  | .reserved0 => .request 0b0000#4
  | .reserved4to7 code => .request code
  | .reserved8toF code => .request code
  | .sensorReset => .command 0x1E#8
  | .promRead1 => .command (promCommand 1#3)
  | .promRead2 => .command (promCommand 2#3)
  | .promRead3 => .command (promCommand 3#3)
  | .promRead4 => .command (promCommand 4#3)
  | .promRead5 => .command (promCommand 5#3)
  | .promRead6 => .command (promCommand 6#3)
  | .promReadCrc => .command (promCommand 7#3)
  | .convD1 => .command 0x48#8
  | .convD2 => .command 0x58#8
  | .adcRead => .command 0x00#8
  | .promRead0 => .command (promCommand 0#3)

/-- The word of the opcode table's numbering: bit 0 is the least significant bit. A row of format H has 4 bits; where
the number of bits is rounded up to a whole byte, a code is its byte zero-extended (log 16). -/
def tableWord (nbits w : Nat) : Option PortWord :=
  if nbits ≤ 4 then
    if w < 16 then some (.request (BitVec.ofNat 4 w)) else none
  else if nbits ≤ 8 then
    if 0 < w ∧ w < 16 then some (.request (BitVec.ofNat 4 w))
    else if w < 256 then some (.command (BitVec.ofNat 8 w))
    else none
  else none

/-- What the decoder reads from a word numbered as spec/opcode_table.json numbers it (log 16). -/
def decodeTableWord (nbits w : Nat) : Option Instr :=
  match tableWord nbits w with
  | some word => (decode word).toOption
  | none => none

/-- A row of spec/opcode_table.json: the bits of `mask` are fixed to `pattern`. -/
structure OpcodeRow where
  mnemonic : String
  width : Nat
  pattern : Nat
  mask : Nat
  deriving DecidableEq, Repr

/-- The rows of spec/opcode_table.json, in its order. -/
def opcodeTable : List OpcodeRow :=
  [⟨"INIT", 4, 0x1, 0xF⟩, ⟨"READ_T", 4, 0x2, 0xF⟩, ⟨"READ_P", 4, 0x3, 0xF⟩,
   ⟨"RESERVED_0x0", 4, 0x0, 0xF⟩, ⟨"RESERVED_0x4-0x7", 4, 0x4, 0xC⟩, ⟨"RESERVED_0x8-0xF", 4, 0x8, 0x8⟩] ++
  [⟨"SENSOR_RESET", 8, 0x1E, 0xFF⟩, ⟨"PROM_READ_1", 8, 0xA2, 0xFF⟩, ⟨"PROM_READ_2", 8, 0xA4, 0xFF⟩,
   ⟨"PROM_READ_3", 8, 0xA6, 0xFF⟩, ⟨"PROM_READ_4", 8, 0xA8, 0xFF⟩, ⟨"PROM_READ_5", 8, 0xAA, 0xFF⟩,
   ⟨"PROM_READ_6", 8, 0xAC, 0xFF⟩, ⟨"PROM_READ_CRC", 8, 0xAE, 0xFF⟩, ⟨"CONV_D1", 8, 0x48, 0xFF⟩,
   ⟨"CONV_D2", 8, 0x58, 0xFF⟩, ⟨"ADC_READ", 8, 0x00, 0xFF⟩, ⟨"PROM_READ_0", 8, 0xA0, 0xFF⟩]

/-- The mnemonic of an instruction's row. -/
def Instr.mnemonic : Instr → String
  | .init => "INIT"
  | .readT => "READ_T"
  | .readP => "READ_P"
  | .reserved0 => "RESERVED_0x0"
  | .reserved4to7 _ => "RESERVED_0x4-0x7"
  | .reserved8toF _ => "RESERVED_0x8-0xF"
  | .sensorReset => "SENSOR_RESET"
  | .promRead1 => "PROM_READ_1"
  | .promRead2 => "PROM_READ_2"
  | .promRead3 => "PROM_READ_3"
  | .promRead4 => "PROM_READ_4"
  | .promRead5 => "PROM_READ_5"
  | .promRead6 => "PROM_READ_6"
  | .promReadCrc => "PROM_READ_CRC"
  | .convD1 => "CONV_D1"
  | .convD2 => "CONV_D2"
  | .adcRead => "ADC_READ"
  | .promRead0 => "PROM_READ_0"

/-- How many bits the word has (R70). -/
def PortWord.width : PortWord → Nat
  | .request _ => 4
  | .command _ => 8

/-- The word's bits as a number. -/
def PortWord.bits : PortWord → Nat
  | .request code => code.toNat
  | .command cmd => cmd.toNat

/-- The word has the row's length and the row's fixed bits. -/
def OpcodeRow.fits (r : OpcodeRow) (word : PortWord) : Bool :=
  word.width == r.width && word.bits &&& r.mask == r.pattern

/-- The rows of the table that a word fits. -/
def rowsOf (word : PortWord) : List String :=
  (opcodeTable.filter (fun r => r.fits word)).map OpcodeRow.mnemonic

end Sys2Proof
end

