-- ==== Sys2Proof/Config.lean ====
section
/-! DEFINITION. What an implementation fixes (the parameters of 00_scope.md R5), the sensor as the CCB's
environment (10_state.md R35), and the free values of the sensor oracle (20_memory.md R54). -/

namespace Sys2Proof

/-- CRC_WORD_SET (R5, R104). -/
inductive CrcWordSet where
  | doc7
  | datasheet8
  deriving DecidableEq, Repr, Inhabited

/-- P_CONV_ORDER (R5, R173). -/
inductive ConvOrder where
  | d1First
  | d2First
  deriving DecidableEq, Repr, Inhabited

/-- The channel of a conversion (R27, R123). -/
inductive Channel where
  | pressure
  | temperature
  deriving DecidableEq, Repr, Inhabited

/-- A conversion in progress in the sensor, and since when (R35): the moment is a value of the order counter. -/
structure Conversion where
  channel : Channel
  since : Nat
  deriving DecidableEq, Repr, Inhabited

/-- The sensor's own state (R35): the PROM of eight words, the one conversion result register, and whether a
conversion is in progress and since when. The CCB cannot read it directly; only the oracle can. -/
structure Sensor where
  prom : Vector Word 8
  result : Sample
  conversion : Option Conversion
  deriving DecidableEq, Repr, Inhabited

/-- What the sensor gives to one bus transaction (R54): TransportError, or success. A success carries three bytes;
a MemRead of n bytes returns the first n of them and a MemWrite none (log 5), so that a byte count other than n is
never returned. -/
inductive BusAnswer where
  | transportError
  | ok (b0 b1 b2 : Byte)
  deriving DecidableEq, Repr, Inhabited

/-- F_CLK in hertz: `OPEN` (R5, U19; log 9). -/
opaque Config.fClk : Nat

/-- DEV_ADDR, the sensor's bus address: `OPEN` (R5, U20; log 9). -/
opaque Config.devAddr : Nat

/-- The sensor at power-up: not stated by the spec (R35, R62; log 7). -/
opaque Config.sensorAtPowerUp : Sensor

/-- FREE VALUE: what the sensor gives to a transaction with this command byte at this moment (R54, U1, U2, U3;
log 4). -/
opaque Config.sensorAnswer : Sensor → Byte → Nat → BusAnswer

/-- FREE VALUE: what the result register holds after an event that overwrites it or whose effect on it is not stated
(R35, R61, R232; log 6). -/
opaque Config.sensorResult : Sensor → Nat → Sample

/-- FREE VALUE: whether a conversion is in progress after an event whose effect on it is not stated (R35, R100, R232;
log 6). -/
opaque Config.sensorConversion : Sensor → Nat → Option Conversion

/-- The parameters of R5 that a rule of the spec depends on. They are held in State, constant along every run, so that
a claim can quantify over them (R6, R12; log 9). -/
structure Params where
  crcWordSet : CrcWordSet
  crcFinalXor : Nibble
  pConvOrder : ConvOrder
  fClk : Nat
  devAddr : Nat
  deriving DecidableEq, Repr

/-- The defaults of R5 and R6; F_CLK and DEV_ADDR stay open. -/
def Params.default : Params where
  crcWordSet := .doc7
  crcFinalXor := 0x0#4
  pConvOrder := .d1First
  fClk := Config.fClk
  devAddr := Config.devAddr

end Sys2Proof
end

