-- ==== Sys2Proof/Machine/State.lean ====
section
/-! DEFINITION. The state of the machine: every register of the CCB (10_state.md), the parameters (00_scope.md R5), the
sensor as environment (R35), and the interface to the host and the bus (43_requests.md R178, R179). -/

namespace Sys2Proof.Machine

/-- The calibration registers C[1..6] (R21). -/
structure Calib where
  c1 : Word
  c2 : Word
  c3 : Word
  c4 : Word
  c5 : Word
  c6 : Word
  deriving DecidableEq, Repr

/-- PEND: the channel the CCB last started a conversion on (R27). -/
inductive Pend where
  | none
  | pressure
  | temperature
  deriving DecidableEq, Repr

/-- The steps of INIT's sequence (R171). `prom0` is a step under DATASHEET8 only (R103); `validate` is the internal
step that computes and compares the checksum and ends the request (R106; log 2). -/
inductive InitStep where
  | sensorReset
  | resetWait
  | prom0
  | prom1
  | prom2
  | prom3
  | prom4
  | prom5
  | prom6
  | promCrc
  | validate
  deriving DecidableEq, Repr

/-- The steps of READ_T's sequence (R172). -/
inductive ReadTStep where
  | conv
  | convWait
  | adc
  | compute
  deriving DecidableEq, Repr

/-- The steps of READ_P's sequence (R173): the first and the second channel of P_CONV_ORDER, then the computation. -/
inductive ReadPStep where
  | conv1
  | wait1
  | adc1
  | conv2
  | wait2
  | adc2
  | compute
  deriving DecidableEq, Repr

/-- SEQ (R24): IDLE or one step of the sequence of the request being run. -/
inductive SeqPos where
  | idle
  | init (step : InitStep)
  | readT (step : ReadTStep)
  | readP (step : ReadPStep)
  deriving DecidableEq, Repr

/-- What the CCB does at a position of SEQ (R24): a bus transaction, a wait, an internal computation, or nothing when
IDLE. -/
inductive SeqWork where
  | nothing
  | command (cmd : Byte)
  | wait (ms : Nat)
  | validate
  | computeT
  | computeP
  deriving DecidableEq, Repr

/-- The status of a request (R200). -/
inductive Status where
  | none
  | ok
  | calError
  | transportError
  | notInitialized
  | illegalRequest
  deriving DecidableEq, Repr

/-- A response event (code, S, v) to the host (R175, D3). -/
structure Response where
  code : Nibble
  status : Status
  value : Result
  deriving DecidableEq, Repr

/-- An entry of the bus trace (R81, R179). A transaction names the device it goes to, which is always DEV_ADDR (R53).
`ok := false` and `data := none` are `ERR`, a TransportError. -/
inductive BusEvent where
  | write (dev : Nat) (cmd : Byte) (ok : Bool)
  | read (dev : Nat) (cmd : Byte) (count : Nat) (data : Option (List Byte))
  | wait (ms : Nat)
  deriving DecidableEq, Repr

/-- What the host reads (R178): the STATUS word and RESULT. -/
structure StatusRead where
  status : Result
  result : Result
  deriving DecidableEq, Repr

/-- A move of the world outside the CCB (R178, log 11). -/
inductive HostMove where
  /-- The host presents a request code and holds it until it is accepted (R170). -/
  | request (code : Nibble)
  /-- The host asserts the block reset (R230). -/
  | blockReset
  /-- The host reads STATUS and RESULT (R31). -/
  | readStatus
  /-- The host does nothing while the CCB takes a step. -/
  | quiet
  /-- Another bus master drives the sensor (R65, R178, U10; log 12). -/
  | otherMaster
  deriving DecidableEq, Repr

/-- The whole state. -/
structure State where
  /-- The parameters of R5; no step changes them. -/
  cfg : Params
  /-- C[1..6] (R21). -/
  c : Calib
  /-- W0, PROM word 0, used under DATASHEET8 only (R33). -/
  w0 : Word
  /-- W7, PROM word 7 as read (R22). -/
  w7 : Word
  /-- CRC_STORED (R23). -/
  crcStored : Nibble
  /-- MODEL'S OWN: CRC_STORED as the previous request left it, which STATUS shows while INIT runs (R32; log 3). -/
  crcHeld : Nibble
  /-- CRC_CALC (R23). -/
  crcCalc : Nibble
  /-- VALID (R29). -/
  valid : Bool
  /-- D1, the raw pressure sample (R26). -/
  d1 : Sample
  /-- D2, the raw temperature sample (R26). -/
  d2 : Sample
  /-- PEND (R27). -/
  pend : Pend
  /-- SEQ (R24). -/
  seq : SeqPos
  /-- The delay timer's count of clock cycles (R211; log 10). -/
  timer : Nat
  /-- RESULT (R28). -/
  result : Result
  /-- LAST_STATUS (R30). -/
  lastStatus : BitVec 3
  /-- LAST_REQ (R30). -/
  lastReq : Nibble
  /-- The sensor (R35). -/
  sensor : Sensor
  /-- MODEL'S OWN: the sensor's coming answers; where there is none, the answer is a free value (R54; log 4). -/
  answers : List BusAnswer
  /-- MODEL'S OWN: the order counter at which free values are taken (log 4). -/
  now : Nat
  /-- MODEL'S OWN: the coming moves of the host (log 11). -/
  host : List HostMove
  /-- The response events so far, oldest first (R175, R179). -/
  responses : List Response
  /-- The bus trace so far, oldest first (R81, R179). -/
  trace : List BusEvent
  /-- MODEL'S OWN: what the host has read so far, oldest first (R178). -/
  statusReads : List StatusRead
  deriving DecidableEq, Repr

/-- Why the machine stops. -/
inductive Fault where
  /-- Raised by the step when another master drives the sensor while BUSY = 1: a host action outside the table of
  R178, for which "the model has no move" (U10). Safe: nothing is claimed of what follows. No instruction raises it. -/
  | hostActionOutsideTable
  deriving DecidableEq, Repr

/-- Why an instruction has no meaning. -/
inductive Refusal where
  /-- Raised by an arm of exec for an instruction that is not modelled yet. Safe. No arm raises it. -/
  | notModelled (mnemonic : String)
  /-- Raised by the sequencer if a position of SEQ held a command byte outside the table of R75, which none does
  (R78). Safe. -/
  | commandOutsideTable (cmd : Byte)
  deriving DecidableEq, Repr

/-- The calibration registers after the block reset (R37). -/
def Calib.zero : Calib := ⟨0#16, 0#16, 0#16, 0#16, 0#16, 0#16⟩

/-- The machine right after reset: the registers at the values of R37; the held copy, the timer, the inputs and the
histories as log 3 and log 7 to 10 say. -/
def State.reset : State where
  cfg := Params.default
  c := Calib.zero
  w0 := 0#16
  w7 := 0#16
  crcStored := 0#4
  crcHeld := 0#4
  crcCalc := 0#4
  valid := false
  d1 := 0#24
  d2 := 0#24
  pend := .none
  seq := .idle
  timer := 0
  result := 0#32
  lastStatus := 0#3
  lastReq := 0#4
  sensor := Config.sensorAtPowerUp
  answers := []
  now := 0
  host := []
  responses := []
  trace := []
  statusReads := []

end Sys2Proof.Machine
end

