-- ==== Sys2Proof/Machine/Operands.lean ====
section
/-! DEFINITION. Operand forms: assembly of returned bytes (20_memory.md R55 to R57, 30_encoding.md R77) and the
calibration registers by index (10_state.md R21). -/

namespace Sys2Proof.Machine

/-- A PROM word from its two bytes, the first being the high byte (R55, R77). -/
def wordOfBytes (b0 b1 : Byte) : Word :=
  b0 ++ b1

/-- A raw sample from its three bytes, the first being the highest (R56, R77). -/
def sampleOfBytes (b0 b1 b2 : Byte) : Sample :=
  b0 ++ b1 ++ b2

/-- The stored checksum: the low 4 bits of the second byte of the checksum-slot read (R57). -/
def checksumOfByte (b1 : Byte) : Nibble :=
  b1.extractLsb' 0 4

/-- The index n of C[n], for n = 1..6 (R21). -/
inductive CalIndex where
  | n1
  | n2
  | n3
  | n4
  | n5
  | n6
  deriving DecidableEq, Repr

/-- The index as the 3-bit PROM index of the command byte (R51, R62). -/
def CalIndex.promIndex : CalIndex → BitVec 3
  | .n1 => 1#3
  | .n2 => 2#3
  | .n3 => 3#3
  | .n4 => 4#3
  | .n5 => 5#3
  | .n6 => 6#3

/-- `C[n]` (R11). -/
def Calib.get (c : Calib) : CalIndex → Word
  | .n1 => c.c1
  | .n2 => c.c2
  | .n3 => c.c3
  | .n4 => c.c4
  | .n5 => c.c5
  | .n6 => c.c6

/-- `C[n] <- v` (R11). -/
def Calib.set (c : Calib) (v : Word) : CalIndex → Calib
  | .n1 => { c with c1 := v }
  | .n2 => { c with c2 := v }
  | .n3 => { c with c3 := v }
  | .n4 => { c with c4 := v }
  | .n5 => { c with c5 := v }
  | .n6 => { c with c6 := v }

end Sys2Proof.Machine
end

