-- ==== Sys2Proof/Machine/Crc.lean ====
section
/-! DEFINITION. The checksum validator's CRC-4 (40_calibration.md R104, R105). -/

namespace Sys2Proof.Machine

/-- One shift of the 16-bit remainder, with feedback 0x3000 when bit 15 is set (R105). -/
def crcShift (rem : BitVec 16) : BitVec 16 :=
  if rem.msb then (rem <<< 1) ^^^ 0x3000#16 else rem <<< 1

/-- `repeat n times` of the shift (R105). -/
def crcShifts : Nat → Word → Word
  | 0, rem => rem
  | n + 1, rem => crcShifts n (crcShift rem)

/-- One pass of R105's loop: a byte is XORed into the remainder and eight shifts follow. -/
def crcByte (rem : Word) (b : Byte) : Word :=
  crcShifts 8 (rem ^^^ b.setWidth 16)

/-- The two passes of a word, high byte first (R105). -/
def crcWord (rem w : Word) : Word :=
  crcByte (crcByte rem (w.extractLsb' 8 8)) (w.extractLsb' 0 8)

/-- The remainder after a list of words, from 0 (R105). -/
def crcRemainder (words : List Word) : Word :=
  words.foldl crcWord 0#16

/-- `CRC4(words)`: bits 15:12 of the remainder, XORed with CRC_FINAL_XOR (R105). -/
def crc4 (words : List Word) (finalXor : Nibble) : Nibble :=
  (crcRemainder words).extractLsb' 12 4 ^^^ finalXor

/-- The list of words the checksum covers (R104). -/
def crcWordList (words : CrcWordSet) (w0 : Word) (c : Calib) (w7 : Word) : List Word :=
  match words with
  | .doc7 => [c.c1, c.c2, c.c3, c.c4, c.c5, c.c6, w7 &&& 0xFFF0#16]
  | .datasheet8 => [w0, c.c1, c.c2, c.c3, c.c4, c.c5, c.c6, w7 &&& 0xFF00#16]

/-- The checksum of the image the registers hold, under the parameters (R104, R105). -/
def State.imageCrc (s : State) : Nibble :=
  crc4 (crcWordList s.cfg.crcWordSet s.w0 s.c s.w7) s.cfg.crcFinalXor

end Sys2Proof.Machine
end

