-- ==== Sys2Proof/Machine/Flags.lean ====
section
/-! DEFINITION. The flags and the status view: status codes (60_exceptions.md R200), BUSY and the STATUS word
(10_state.md R25, R31), and the branch conditions of the second-order correction (42_compensation.md R143). -/

namespace Sys2Proof.Machine

/-- The 3-bit code of a status (R200). -/
def Status.code : Status → BitVec 3
  | .none => 0#3
  | .ok => 1#3
  | .calError => 2#3
  | .transportError => 3#3
  | .notInitialized => 4#3
  | .illegalRequest => 5#3

/-- BUSY is 1 while SEQ ≠ IDLE; it is no storage element of its own (R25). -/
def State.busy (s : State) : Bool :=
  s.seq != .idle

/-- What STATUS shows of CRC_STORED: the register (R31), but while INIT runs, which writes it before it completes, what
the previous request left (R32; log 3). -/
def State.shownCrcStored (s : State) : Nibble :=
  match s.seq with
  | .init _ => s.crcHeld
  | .idle | .readT _ | .readP _ => s.crcStored

/-- The STATUS word (R31): from the top, 12 reserved bits, LAST_REQ, CRC_CALC, CRC_STORED, 3 reserved bits, BUSY, VALID,
LAST_STATUS. -/
def State.statusWord (s : State) : Result :=
  0#12 ++ s.lastReq ++ s.crcCalc ++ s.shownCrcStored ++ 0#3 ++ BitVec.ofBool s.busy ++ BitVec.ofBool s.valid ++ s.lastStatus

/-- `cold = (TEMP < 2000)`, on the uncorrected TEMP (R143). -/
def cold (temp : Int) : Bool :=
  temp < 2000

/-- `verycold = cold and (TEMP < -1500)` (R143). -/
def veryCold (temp : Int) : Bool :=
  cold temp && temp < -1500

end Sys2Proof.Machine
end

