-- ==== Sys2Proof/Machine/Sequence.lean ====
section
/-! DEFINITION. The fixed sequences of the three requests as tables over SEQ (43_requests.md R171 to R173,
10_state.md R24), and the waits between their steps (00_scope.md R5, 60_exceptions.md R211). -/

namespace Sys2Proof.Machine

/-- T_RESET_WAIT in milliseconds (R5, R236). -/
def tResetWait : Nat := 3

/-- T_CONV_WAIT in milliseconds (R5, R237). -/
def tConvWait : Nat := 9

/-- The command byte that starts a conversion of a channel (R75). -/
def convCommand : Channel → Byte
  | .pressure => 0x48#8
  | .temperature => 0x58#8

/-- The channel PEND records once a conversion of it is started (R27). -/
def Pend.ofChannel : Channel → Pend
  | .pressure => .pressure
  | .temperature => .temperature

/-- The channel READ_P converts first (R173). -/
def firstChannel : ConvOrder → Channel
  | .d1First => .pressure
  | .d2First => .temperature

/-- The channel READ_P converts second (R173). -/
def secondChannel : ConvOrder → Channel
  | .d1First => .temperature
  | .d2First => .pressure

/-- The code of the request that SEQ is running (R72); none when IDLE. -/
def SeqPos.requestCode : SeqPos → Option Nibble
  | .idle => none
  | .init _ => some 0x1#4
  | .readT _ => some 0x2#4
  | .readP _ => some 0x3#4

/-- What INIT does at each step (R171). -/
def InitStep.work : InitStep → SeqWork
  | .sensorReset => .command 0x1E#8
  | .resetWait => .wait tResetWait
  | .prom0 => .command 0xA0#8
  | .prom1 => .command 0xA2#8
  | .prom2 => .command 0xA4#8
  | .prom3 => .command 0xA6#8
  | .prom4 => .command 0xA8#8
  | .prom5 => .command 0xAA#8
  | .prom6 => .command 0xAC#8
  | .promCrc => .command 0xAE#8
  | .validate => .validate

/-- What READ_T does at each step (R172). -/
def ReadTStep.work : ReadTStep → SeqWork
  | .conv => .command (convCommand .temperature)
  | .convWait => .wait tConvWait
  | .adc => .command 0x00#8
  | .compute => .computeT

/-- What READ_P does at each step (R173). -/
def ReadPStep.work (order : ConvOrder) : ReadPStep → SeqWork
  | .conv1 => .command (convCommand (firstChannel order))
  | .wait1 => .wait tConvWait
  | .adc1 => .command 0x00#8
  | .conv2 => .command (convCommand (secondChannel order))
  | .wait2 => .wait tConvWait
  | .adc2 => .command 0x00#8
  | .compute => .computeP

/-- What the CCB does at a position of SEQ (R24). -/
def SeqPos.work (p : Params) : SeqPos → SeqWork
  | .idle => .nothing
  | .init k => k.work
  | .readT k => k.work
  | .readP k => k.work p.pConvOrder

/-- The step after each step of INIT (R171); PROM_READ 0 comes first under DATASHEET8 only. -/
def InitStep.next (words : CrcWordSet) : InitStep → SeqPos
  | .sensorReset => .init .resetWait
  | .resetWait =>
    match words with
    | .doc7 => .init .prom1
    | .datasheet8 => .init .prom0
  | .prom0 => .init .prom1
  | .prom1 => .init .prom2
  | .prom2 => .init .prom3
  | .prom3 => .init .prom4
  | .prom4 => .init .prom5
  | .prom5 => .init .prom6
  | .prom6 => .init .promCrc
  | .promCrc => .init .validate
  | .validate => .idle

/-- The step after each step of READ_T (R172). -/
def ReadTStep.next : ReadTStep → SeqPos
  | .conv => .readT .convWait
  | .convWait => .readT .adc
  | .adc => .readT .compute
  | .compute => .idle

/-- The step after each step of READ_P (R173). -/
def ReadPStep.next : ReadPStep → SeqPos
  | .conv1 => .readP .wait1
  | .wait1 => .readP .adc1
  | .adc1 => .readP .conv2
  | .conv2 => .readP .wait2
  | .wait2 => .readP .adc2
  | .adc2 => .readP .compute
  | .compute => .idle

/-- The step SEQ advances to when a step completes (R24). -/
def SeqPos.next (p : Params) : SeqPos → SeqPos
  | .idle => .idle
  | .init k => k.next p.crcWordSet
  | .readT k => k.next
  | .readP k => k.next

/-- The timer's count for a wait: `ceil(t * F_CLK)` for t milliseconds at F_CLK hertz (R211; log 9). -/
def waitCycles (ms fClk : Nat) : Nat :=
  (ms * fClk + 999) / 1000

/-- What the timer holds while SEQ stands at a position: the count of the wait there, or 0 (R211; log 10). -/
def SeqPos.timerLoad (p : Params) (q : SeqPos) : Nat :=
  match q.work p with
  | .wait ms => waitCycles ms p.fClk
  | _ => 0

end Sys2Proof.Machine
end

