-- ==== Sys2Proof/Machine/Ops.lean ====
section
/-! DEFINITION. The shared operations: moving SEQ (10_state.md R24), completion and `raise` (43_requests.md R175,
60_exceptions.md R203), the two bus transactions (00_scope.md R11, 20_memory.md R53), the sensor as environment
(10_state.md R35), acceptance (43_requests.md R170), and the block reset (70_reset_and_hazards.md R230). -/

namespace Sys2Proof.Machine

/-- `seq <- step` (R11): SEQ moves, and the timer is loaded if a wait stands there (R211). -/
def State.goto (q : SeqPos) (s : State) : State :=
  { s with seq := q, timer := q.timerLoad s.cfg }

/-- SEQ advances by exactly one step (R24). -/
def State.advance (s : State) : State :=
  s.goto (s.seq.next s.cfg)

/-- `complete(S, v)` for the request with this code (R175). RESULT takes v as a 32-bit pattern (R158). -/
def State.complete (code : Nibble) (status : Status) (v : Int) (s : State) : State :=
  { s with
    lastStatus := status.code
    lastReq := code
    result := BitVec.ofInt 32 v
    seq := .idle
    timer := 0
    responses := s.responses ++ [⟨code, status, BitVec.ofInt 32 v⟩] }

/-- The request that SEQ is running ends with this status and value (R175). With SEQ = IDLE there is no request to end
and nothing is written (log 14). -/
def State.finish (status : Status) (v : Int) (s : State) : State :=
  match s.seq.requestCode with
  | some code => s.complete code status v
  | none => s

/-- TAKING AN EXCEPTION: `raise S` is `complete(S, 0)` at once (R11, R203). The state saved is the completion record;
SEQ goes to IDLE; every register keeps what earlier steps wrote. There is no vector and no return operation (R208). -/
def State.raise (status : Status) (s : State) : State :=
  s.finish status 0

/-- The sensor after an event whose effect on it the spec does not state: its PROM is factory-programmed and stays; the
result register and the conversion in progress are free values (R35, R61, R232; log 6). -/
def State.disturbSensor (s : State) : State :=
  { s with sensor :=
    { s.sensor with
      result := Config.sensorResult s.sensor s.now
      conversion := Config.sensorConversion s.sensor s.now } }

/-- The sensor after it took a conversion command: a conversion of the channel is in progress from now, and the one
result register is overwritten by a free value (R35, R52; log 6). -/
def State.startConversion (ch : Channel) (s : State) : State :=
  { s with sensor :=
    { s.sensor with
      result := Config.sensorResult s.sensor s.now
      conversion := some ⟨ch, s.now⟩ } }

/-- The oracle's outcome of a transaction (R54): the next of the coming answers, or a free value where there is none
(log 4). -/
def State.busAnswer (cmd : Byte) (s : State) : BusAnswer :=
  match s.answers with
  | a :: _ => a
  | [] => Config.sensorAnswer s.sensor cmd s.now

/-- A transaction or a wait enters the bus trace and order moves on (R179, log 4). -/
def State.record (e : BusEvent) (s : State) : State :=
  { s with trace := s.trace ++ [e], now := s.now + 1 }

/-- A transaction has returned: its entry is in the trace and its answer is used up. -/
def State.transacted (e : BusEvent) (s : State) : State :=
  { s.record e with answers := s.answers.tail }

/-- `r <- MemWrite(cmd); if r = TransportError: raise TRANSPORT_ERROR`, then the operation's own effect, and SEQ advances
(R11, R53, R202). Whether a failed command reached the sensor is not stated (log 6). -/
def State.memWrite (cmd : Byte) (effect : State → State) (s : State) : State :=
  match s.busAnswer cmd with
  | .transportError =>
    ((s.transacted (.write s.cfg.devAddr cmd false)).disturbSensor).raise .transportError
  | .ok _ _ _ => (effect (s.transacted (.write s.cfg.devAddr cmd true))).advance

/-- `r <- MemRead(cmd, 2)` with the failure path, then the operation's effect of the two bytes, and SEQ advances (R11,
R53, R60, R202). A PROM read has no side effect on the sensor (R61). -/
def State.memRead2 (cmd : Byte) (effect : Byte → Byte → State → State) (s : State) : State :=
  match s.busAnswer cmd with
  | .transportError => (s.transacted (.read s.cfg.devAddr cmd 2 none)).raise .transportError
  | .ok b0 b1 _ => (effect b0 b1 (s.transacted (.read s.cfg.devAddr cmd 2 (some [b0, b1])))).advance

/-- `r <- MemRead(cmd, 3)` with the failure path, then the operation's effect of the three bytes, and SEQ advances (R11,
R53, R60, R202). Whether a result read has a side effect on the sensor is not stated (R61; log 6). -/
def State.memRead3 (cmd : Byte) (effect : Byte → Byte → Byte → State → State) (s : State) : State :=
  match s.busAnswer cmd with
  | .transportError =>
    ((s.transacted (.read s.cfg.devAddr cmd 3 none)).disturbSensor).raise .transportError
  | .ok b0 b1 b2 =>
    (effect b0 b1 b2 ((s.transacted (.read s.cfg.devAddr cmd 3 (some [b0, b1, b2]))).disturbSensor)).advance

/-- Acceptance (R170): a request is accepted only when SEQ = IDLE; while BUSY = 1 it is held and nothing changes. -/
def State.accept (request : State → State) (s : State) : State :=
  if s.seq = .idle then request s else s

/-- The block reset (R230): every register of the CCB takes its value of R37, at any time. No response is emitted for an
abandoned request, and the sensor's state becomes unspecified (R37, R232; log 6, 13). The parameters, the inputs and
what has been observed so far are no registers and stay. -/
def State.blockReset (s : State) : State :=
  let s := s.disturbSensor
  { s with
    c := Calib.zero
    w0 := 0#16
    w7 := 0#16
    crcStored := 0#4
    crcHeld := 0#4
    crcCalc := 0#4
    valid := false
    d1 := 0#24
    d2 := 0#24
    pend := .none
    seq := .idle
    timer := 0
    result := 0#32
    lastStatus := 0#3
    lastReq := 0#4
    now := s.now + 1 }

/-- The host reads STATUS and RESULT as they stand (R31, R178, R244). -/
def State.readStatus (s : State) : State :=
  { s with statusReads := s.statusReads ++ [⟨s.statusWord, s.result⟩] }

/-- Another master has used the sensor while BUSY = 0 (R65; log 12). -/
def State.otherMasterUse (s : State) : State :=
  let s := s.disturbSensor
  { s with now := s.now + 1 }

end Sys2Proof.Machine
end

