-- ==== Sys2Proof/Machine/Calibration.lean ====
section
/-! DEFINITION. The bus operations of INIT and the checksum validation (40_calibration.md R100 to R106). -/

namespace Sys2Proof.Machine

/-- SENSOR_RESET (R100): `MemWrite(0x1E)`, then `PEND <- NONE`. What the reset does to a conversion in progress is not
stated (log 6). -/
def execSensorReset (s : State) : Host.Outcome State Fault Refusal :=
  .next (s.memWrite 0x1E#8 (fun s => { s.disturbSensor with pend := .none }))

/-- PROM_READ n (R101): `MemRead(0xA0 | (n << 1), 2)`, then `C[n] <- b0 * 2^8 + b1`. -/
def promReadInto (n : CalIndex) (s : State) : State :=
  s.memRead2 (promCommand n.promIndex) (fun b0 b1 s => { s with c := s.c.set (wordOfBytes b0 b1) n })

/-- PROM_READ 1 (R101). -/
def execPromRead1 (s : State) : Host.Outcome State Fault Refusal :=
  .next (promReadInto .n1 s)

/-- PROM_READ 2 (R101). -/
def execPromRead2 (s : State) : Host.Outcome State Fault Refusal :=
  .next (promReadInto .n2 s)

/-- PROM_READ 3 (R101). -/
def execPromRead3 (s : State) : Host.Outcome State Fault Refusal :=
  .next (promReadInto .n3 s)

/-- PROM_READ 4 (R101). -/
def execPromRead4 (s : State) : Host.Outcome State Fault Refusal :=
  .next (promReadInto .n4 s)

/-- PROM_READ 5 (R101). -/
def execPromRead5 (s : State) : Host.Outcome State Fault Refusal :=
  .next (promReadInto .n5 s)

/-- PROM_READ 6 (R101). -/
def execPromRead6 (s : State) : Host.Outcome State Fault Refusal :=
  .next (promReadInto .n6 s)

/-- PROM_READ_CRC (R102): `MemRead(0xAE, 2)`, then `W7 <- b0 * 2^8 + b1` and `CRC_STORED <- b1 & 0xF`. -/
def execPromReadCrc (s : State) : Host.Outcome State Fault Refusal :=
  .next (s.memRead2 0xAE#8
    (fun b0 b1 s => { s with w7 := wordOfBytes b0 b1, crcStored := checksumOfByte b1 }))

/-- PROM_READ 0 (R103): `MemRead(0xA0, 2)`, then `W0 <- b0 * 2^8 + b1`. INIT issues it under DATASHEET8 only. -/
def execPromRead0 (s : State) : Host.Outcome State Fault Refusal :=
  .next (s.memRead2 0xA0#8 (fun b0 b1 s => { s with w0 := wordOfBytes b0 b1 }))

/-- The validation that ends INIT (R106, R171): CRC_CALC takes the computed checksum; on a match VALID <- 1 and the
request completes with OK, else CAL_ERROR is raised (log 2). -/
def validateStep (s : State) : State :=
  let s := { s with crcCalc := s.imageCrc }
  if s.crcCalc = s.crcStored then { s with valid := true }.finish .ok 0
  else s.raise .calError

end Sys2Proof.Machine
end

