-- ==== Sys2Proof/Machine/Compensation.lean ====
section
/-! DEFINITION. The compensation (42_compensation.md): exact integers, every `/` being `tdiv` (00_scope.md R9). The
functions of R154 are the meaning; the formulas of R141 to R153 stand beside them, and the 64-bit datapath of R157. -/

namespace Sys2Proof.Machine

/-- `tdiv(a, b)`: integer division that truncates toward zero (R9). -/
def tdiv (a b : Int) : Int :=
  Int.tdiv a b

/-- A calibration word or sample as a non-negative integer (R8, R77). -/
def uint {w : Nat} (v : BitVec w) : Int :=
  (v.toNat : Int)

/-- `dT = D2 - C[5] * 2^8` (R141). -/
def dTOf (c : Calib) (d2 : Sample) : Int :=
  uint d2 - uint c.c5 * 2 ^ 8

/-- `TEMP = 2000 + tdiv(dT * C[6], 2^23)` (R142). -/
def tempOf (c : Calib) (d2 : Sample) : Int :=
  2000 + tdiv (dTOf c d2 * uint c.c6) (2 ^ 23)

/-- `CompT(C, D2)` (R154): the temperature in hundredths of a degree Celsius. -/
def compT (c : Calib) (d2 : Sample) : Int :=
  let dT := dTOf c d2
  let temp := tempOf c d2
  let t2 := if cold temp then tdiv (dT * dT) (2 ^ 31) else 0
  temp - t2

/-- `Second(TEMP)` (R154): the pair (OFF2, SENS2). -/
def second (temp : Int) : Int × Int :=
  if cold temp then
    let x := (temp - 2000) ^ 2
    let off2 := tdiv (5 * x) 2
    let sens2 := tdiv (5 * x) 4
    if veryCold temp then
      let y := (temp + 1500) ^ 2
      (off2 + 7 * y, sens2 + tdiv (11 * y) 2)
    else (off2, sens2)
  else (0, 0)

/-- `CompP(C, D1, D2)` (R154): the pressure in hundredths of a millibar. -/
def compP (c : Calib) (d1 d2 : Sample) : Int :=
  let dT := dTOf c d2
  let (off2, sens2) := second (tempOf c d2)
  let off := uint c.c2 * 2 ^ 16 + tdiv (uint c.c4 * dT) (2 ^ 7)
  let sens := uint c.c1 * 2 ^ 15 + tdiv (uint c.c3 * dT) (2 ^ 8)
  tdiv (tdiv (uint d1 * (sens - sens2)) (2 ^ 21) - (off - off2)) (2 ^ 15)

/-- T2 (R144, R145). -/
def t2Of (c : Calib) (d2 : Sample) : Int :=
  if tempOf c d2 < 2000 then tdiv (dTOf c d2 ^ 2) (2 ^ 31) else 0

/-- OFF2 (R144, R146, R148). -/
def off2Of (temp : Int) : Int :=
  if 2000 ≤ temp then 0
  else if temp < -1500 then tdiv (5 * (temp - 2000) ^ 2) 2 + 7 * (temp + 1500) ^ 2
  else tdiv (5 * (temp - 2000) ^ 2) 2

/-- SENS2 (R144, R147, R148). -/
def sens2Of (temp : Int) : Int :=
  if 2000 ≤ temp then 0
  else if temp < -1500 then tdiv (5 * (temp - 2000) ^ 2) 4 + tdiv (11 * (temp + 1500) ^ 2) 2
  else tdiv (5 * (temp - 2000) ^ 2) 4

/-- TEMP_OUT (R149). -/
def tempOutOf (c : Calib) (d2 : Sample) : Int :=
  tempOf c d2 - t2Of c d2

/-- OFF (R150): the product C4 * dT, not the sum (90_conflicts.md C1). -/
def offOf (c : Calib) (d2 : Sample) : Int :=
  uint c.c2 * 2 ^ 16 + tdiv (uint c.c4 * dTOf c d2) (2 ^ 7)

/-- SENS (R151). -/
def sensOf (c : Calib) (d2 : Sample) : Int :=
  uint c.c1 * 2 ^ 15 + tdiv (uint c.c3 * dTOf c d2) (2 ^ 8)

/-- OFF_adj (R152). -/
def offAdjOf (c : Calib) (d2 : Sample) : Int :=
  offOf c d2 - off2Of (tempOf c d2)

/-- SENS_adj (R152). -/
def sensAdjOf (c : Calib) (d2 : Sample) : Int :=
  sensOf c d2 - sens2Of (tempOf c d2)

/-- The inner quotient of R153, truncated before OFF_adj is subtracted. -/
def scaledOf (c : Calib) (d1 d2 : Sample) : Int :=
  tdiv (uint d1 * sensAdjOf c d2) (2 ^ 21)

/-- P (R153). -/
def pressureOf (c : Calib) (d1 d2 : Sample) : Int :=
  tdiv (scaledOf c d1 d2 - offAdjOf c d2) (2 ^ 15)

/-- Every intermediate of R154 that a datapath holds, the products before their division among them (R157). -/
def intermediates (c : Calib) (d1 d2 : Sample) : List Int :=
  let dT := dTOf c d2
  let temp := tempOf c d2
  [uint c.c5 * 2 ^ 8, dT, dT * uint c.c6, tdiv (dT * uint c.c6) (2 ^ 23), temp, dT * dT, t2Of c d2, tempOutOf c d2] ++
  [temp - 2000, (temp - 2000) ^ 2, 5 * (temp - 2000) ^ 2, tdiv (5 * (temp - 2000) ^ 2) 2, tdiv (5 * (temp - 2000) ^ 2) 4,
   temp + 1500, (temp + 1500) ^ 2, 7 * (temp + 1500) ^ 2, 11 * (temp + 1500) ^ 2, tdiv (11 * (temp + 1500) ^ 2) 2,
   off2Of temp, sens2Of temp] ++
  [uint c.c2 * 2 ^ 16, uint c.c4 * dT, tdiv (uint c.c4 * dT) (2 ^ 7), offOf c d2,
   uint c.c1 * 2 ^ 15, uint c.c3 * dT, tdiv (uint c.c3 * dT) (2 ^ 8), sensOf c d2] ++
  [offAdjOf c d2, sensAdjOf c d2, uint d1 * sensAdjOf c d2, scaledOf c d1 d2, scaledOf c d1 d2 - offAdjOf c d2,
   pressureOf c d1 d2]

/-- A value of the 64-bit two's-complement datapath (R157, D5). -/
abbrev Wide := BitVec 64

/-- CompT on the 64-bit datapath: the same formulas, each operation wrapping at 64 bits, signed division truncating. -/
def compT64 (c : Calib) (d2 : Sample) : Wide :=
  let dT : Wide := d2.setWidth 64 - c.c5.setWidth 64 * 256#64
  let temp : Wide := 2000#64 + (dT * c.c6.setWidth 64).sdiv 8388608#64
  let t2 : Wide := if temp.slt 2000#64 then (dT * dT).sdiv 2147483648#64 else 0#64
  temp - t2

/-- CompP on the 64-bit datapath (R157). -/
def compP64 (c : Calib) (d1 d2 : Sample) : Wide :=
  let dT : Wide := d2.setWidth 64 - c.c5.setWidth 64 * 256#64
  let temp : Wide := 2000#64 + (dT * c.c6.setWidth 64).sdiv 8388608#64
  let x : Wide := (temp - 2000#64) * (temp - 2000#64)
  let y : Wide := (temp + 1500#64) * (temp + 1500#64)
  let isCold := temp.slt 2000#64
  let isVeryCold := temp.slt (-1500#64)
  let off2 : Wide :=
    if isCold then
      if isVeryCold then (5#64 * x).sdiv 2#64 + 7#64 * y else (5#64 * x).sdiv 2#64
    else 0#64
  let sens2 : Wide :=
    if isCold then
      if isVeryCold then (5#64 * x).sdiv 4#64 + (11#64 * y).sdiv 2#64 else (5#64 * x).sdiv 4#64
    else 0#64
  let off : Wide := c.c2.setWidth 64 * 65536#64 + (c.c4.setWidth 64 * dT).sdiv 128#64
  let sens : Wide := c.c1.setWidth 64 * 32768#64 + (c.c3.setWidth 64 * dT).sdiv 256#64
  ((d1.setWidth 64 * (sens - sens2)).sdiv 2097152#64 - (off - off2)).sdiv 32768#64

end Sys2Proof.Machine
end

