-- ==== Sys2Proof/Machine/RawSample.lean ====
section
/-! DEFINITION. The bus operations of READ_T and READ_P, and the steps of the sequences that are no transaction: the
waits and the compute steps (41_raw_sample.md R120 to R125, 43_requests.md R172, R173). -/

namespace Sys2Proof.Machine

/-- The conversion command of a channel, and PEND names the channel (R27, R120, R121, R123). -/
def State.convert (ch : Channel) (s : State) : State :=
  s.memWrite (convCommand ch) (fun s => { s.startConversion ch with pend := Pend.ofChannel ch })

/-- CONV_D1 (R120): `MemWrite(0x48)`, then `PEND <- PRESSURE`. -/
def execConvD1 (s : State) : Host.Outcome State Fault Refusal :=
  .next (s.convert .pressure)

/-- CONV_D2 (R121): `MemWrite(0x58)`, then `PEND <- TEMPERATURE`. -/
def execConvD2 (s : State) : Host.Outcome State Fault Refusal :=
  .next (s.convert .temperature)

/-- The sample goes where PEND says, and PEND <- NONE (R122, R125). -/
def State.storeSample (v : Sample) (s : State) : State :=
  match s.pend with
  | .pressure => { s with d1 := v, pend := .none }
  | .temperature => { s with d2 := v, pend := .none }
  | .none => { s with pend := .none }

/-- `MemRead(0x00, 3)`, and the sample goes to D1 or D2 by PEND (R122). -/
def State.readSample (s : State) : State :=
  s.memRead3 0x00#8 (fun b0 b1 b2 s => s.storeSample (sampleOfBytes b0 b1 b2))

/-- ADC_READ (R122). -/
def execAdcRead (s : State) : Host.Outcome State Fault Refusal :=
  .next s.readSample

/-- `Wait(t)` (R11, R240): a step that only lets SEQ advance; it is on the bus trace (R179). -/
def waitStep (ms : Nat) (s : State) : State :=
  (s.record (.wait ms)).advance

/-- `complete(OK, CompT(C, D2))` (R172). -/
def computeTStep (s : State) : State :=
  s.finish .ok (compT s.c s.d2)

/-- `complete(OK, CompP(C, D1, D2))` (R173). -/
def computePStep (s : State) : State :=
  s.finish .ok (compP s.c s.d1 s.d2)

end Sys2Proof.Machine
end

