-- ==== Sys2Proof/Machine/Requests.lean ====
section
/-! DEFINITION. The host requests (43_requests.md R170 to R174): each meaning is the acceptance of the request, with what
its sequence does before its first transaction (log 1). The sequencer runs the rest. -/

namespace Sys2Proof.Machine

/-- INIT (R171): `VALID <- 0`, and SEQ leaves IDLE for SENSOR_RESET. CRC_STORED is held for STATUS (R32; log 3). -/
def execInit (s : State) : Host.Outcome State Fault Refusal :=
  .next (s.accept (fun s => { s with valid := false, crcHeld := s.crcStored }.goto (.init .sensorReset)))

/-- `if VALID = 0: raise NOT_INITIALIZED`, with no transaction; otherwise SEQ leaves IDLE for the first step of the
sequence (R172, R173, R204). -/
def State.startRead (code : Nibble) (first : SeqPos) (s : State) : State :=
  if s.valid then s.goto first else s.complete code .notInitialized 0

/-- READ_T (R172). -/
def execReadT (s : State) : Host.Outcome State Fault Refusal :=
  .next (s.accept (fun s => s.startRead 0x2#4 (.readT .conv)))

/-- READ_P (R173). -/
def execReadP (s : State) : Host.Outcome State Fault Refusal :=
  .next (s.accept (fun s => s.startRead 0x3#4 (.readP .conv1)))

/-- A reserved code: `complete(ILLEGAL_REQUEST, 0)` at once (R174, R205). -/
def State.illegal (code : Nibble) (s : State) : State :=
  s.complete code .illegalRequest 0

/-- The reserved code 0x0 (R174). -/
def execReserved0 (s : State) : Host.Outcome State Fault Refusal :=
  .next (s.accept (fun s => s.illegal 0x0#4))

/-- The reserved codes 0x4 to 0x7 (R174). -/
def execReserved4to7 (code : Nibble) (s : State) : Host.Outcome State Fault Refusal :=
  .next (s.accept (fun s => s.illegal code))

/-- The reserved codes 0x8 to 0xF (R174). -/
def execReserved8toF (code : Nibble) (s : State) : Host.Outcome State Fault Refusal :=
  .next (s.accept (fun s => s.illegal code))

end Sys2Proof.Machine
end

