-- ==== Sys2Proof/Machine/Dispatch.lean ====
section
/-! DEFINITION. One arm per constructor of Instr. -/

namespace Sys2Proof.Machine

def exec (i : Instr) (s : State) : Host.Outcome State Fault Refusal :=
  match i with
  | .init => Sys2Proof.Machine.execInit s
  | .readT => Sys2Proof.Machine.execReadT s
  | .readP => Sys2Proof.Machine.execReadP s
  | .reserved0 => Sys2Proof.Machine.execReserved0 s
  | .reserved4to7 code => Sys2Proof.Machine.execReserved4to7 code s
  | .reserved8toF code => Sys2Proof.Machine.execReserved8toF code s
  | .sensorReset => Sys2Proof.Machine.execSensorReset s
  | .promRead1 => Sys2Proof.Machine.execPromRead1 s
  | .promRead2 => Sys2Proof.Machine.execPromRead2 s
  | .promRead3 => Sys2Proof.Machine.execPromRead3 s
  | .promRead4 => Sys2Proof.Machine.execPromRead4 s
  | .promRead5 => Sys2Proof.Machine.execPromRead5 s
  | .promRead6 => Sys2Proof.Machine.execPromRead6 s
  | .promReadCrc => Sys2Proof.Machine.execPromReadCrc s
  | .convD1 => Sys2Proof.Machine.execConvD1 s
  | .convD2 => Sys2Proof.Machine.execConvD2 s
  | .adcRead => Sys2Proof.Machine.execAdcRead s
  | .promRead0 => Sys2Proof.Machine.execPromRead0 s

end Sys2Proof.Machine
end

