-- ==== Sys2Proof/Machine/Sequencer.lean ====
section
/-! DEFINITION. The sequencer (10_state.md R24) and the host's moves (43_requests.md R170, R178; log 11). -/

namespace Sys2Proof.Machine

/-- The CCB issues a command byte (R2, R75): the instruction it decodes to runs. -/
def issueCommand (cmd : Byte) (s : State) : Host.Outcome State Fault Refusal :=
  match decode (.command cmd) with
  | .ok i => exec i s
  | .error (.commandOutsideTable cmd) => .refused (.commandOutsideTable cmd)

/-- The CCB does what stands at SEQ (R24); with SEQ = IDLE it waits for a request and nothing changes. -/
def runSequencer (s : State) : Host.Outcome State Fault Refusal :=
  match s.seq.work s.cfg with
  | .nothing => .next s
  | .command cmd => issueCommand cmd s
  | .wait ms => .next (waitStep ms s)
  | .validate => .next (validateStep s)
  | .computeT => .next (computeTStep s)
  | .computeP => .next (computePStep s)

/-- The CCB accepts a request code from the request port (R79, R170): the instruction it decodes to runs. -/
def takeRequest (code : Nibble) (s : State) : Host.Outcome State Fault Refusal :=
  exec (decodeRequest code) s

/-- One step of the machine. The host's next move lands first (log 11). A request is accepted when SEQ = IDLE and is
held, neither queued nor dropped, while BUSY = 1 (R170). A block reset, a status read and a foreign use of an idle bus
are steps of their own. -/
def stepWithHost (s : State) : Host.Outcome State Fault Refusal :=
  match s.host with
  | [] => runSequencer s
  | .quiet :: rest => runSequencer { s with host := rest }
  | .request code :: rest =>
    if s.seq = .idle then takeRequest code { s with host := rest } else runSequencer s
  | .blockReset :: rest => .next { s with host := rest }.blockReset
  | .readStatus :: rest => .next { s with host := rest }.readStatus
  | .otherMaster :: rest =>
    if s.seq = .idle then .next { s with host := rest }.otherMasterUse else .fault .hostActionOutsideTable

/-- Where SEQ stands when a bus operation is issued; none for a host request (R171 to R173; log 17). -/
def positionOf (p : Params) : Instr → Option SeqPos
  | .init | .readT | .readP | .reserved0 | .reserved4to7 _ | .reserved8toF _ => none
  | .sensorReset => some (.init .sensorReset)
  | .promRead0 => some (.init .prom0)
  | .promRead1 => some (.init .prom1)
  | .promRead2 => some (.init .prom2)
  | .promRead3 => some (.init .prom3)
  | .promRead4 => some (.init .prom4)
  | .promRead5 => some (.init .prom5)
  | .promRead6 => some (.init .prom6)
  | .promReadCrc => some (.init .promCrc)
  | .convD1 =>
    match p.pConvOrder with
    | .d1First => some (.readP .conv1)
    | .d2First => some (.readP .conv2)
  | .convD2 => some (.readT .conv)
  | .adcRead => some (.readT .adc)

/-- The state in which the very next step runs this instruction (log 17). A host request is presented to the idle CCB.
A bus operation is issued from its place in a sequence, with the host doing nothing in that step; PROM_READ 0 has a
place under DATASHEET8 only (R103). -/
def State.place (i : Instr) (s : State) : State :=
  match encode i with
  | .request code => { s.goto .idle with host := .request code :: s.host }
  | .command _ =>
    match positionOf s.cfg i with
    | none => s
    | some q =>
      let p := if i = .promRead0 then { s.cfg with crcWordSet := .datasheet8 } else s.cfg
      { { s with cfg := p }.goto q with host := .quiet :: s.host }

end Sys2Proof.Machine
end

