-- ==== Sys2Proof/Machine/Step.lean ====
section
/-! DEFINITION. One step of the machine, and where its next instruction is placed. -/

namespace Sys2Proof.Machine

/-- One step: the host's move, or the CCB's step (R24, R170, R178). -/
def step (s : State) : Host.Outcome State Fault Refusal :=
  stepWithHost s

/-- The state in which the next step runs the instruction of this table word (log 17); unchanged where the word is
none. -/
def State.withFetchWord (s : State) (nbits w : Nat) : State :=
  match decodeTableWord nbits w with
  | some i => s.place i
  | none => s

end Sys2Proof.Machine
end

