-- ==== Sys2Proof/Safety.lean ====
section
/-! DEFINITION. What the claims are stated in: the invariant of the machine, the end of a run (43_requests.md R179), and
what a run shows. -/

namespace Sys2Proof.Machine

/-- The request a status may belong to (R200, the columns "raised by" and "code"). -/
abbrev statusFitsRequest (status : BitVec 3) (req : Nibble) : Prop :=
  (status = Status.none.code → req = 0x0#4) ∧
  (status = Status.ok.code → req = 0x1#4 ∨ req = 0x2#4 ∨ req = 0x3#4) ∧
  (status = Status.calError.code → req = 0x1#4) ∧
  (status = Status.transportError.code → req = 0x1#4 ∨ req = 0x2#4 ∨ req = 0x3#4) ∧
  (status = Status.notInitialized.code → req = 0x2#4 ∨ req = 0x3#4) ∧
  (status = Status.illegalRequest.code → req = 0x0#4 ∨ 0x4#4 ≤ req)

/-- VALID at a position of SEQ: 0 while INIT runs, 1 while a read runs (R29, R171 to R173). -/
def validAt (valid : Bool) : SeqPos → Prop
  | .idle => True
  | .init _ => valid = false
  | .readT _ => valid = true
  | .readP _ => valid = true

/-- PEND at a position of SEQ: between a conversion command and the read of its result, the channel of that command
(R27, R125). -/
def pendAt (order : ConvOrder) (pend : Pend) : SeqPos → Prop
  | .readT .convWait | .readT .adc => pend = .temperature
  | .readP .wait1 | .readP .adc1 => pend = Pend.ofChannel (firstChannel order)
  | .readP .wait2 | .readP .adc2 => pend = Pend.ofChannel (secondChannel order)
  | _ => True

/-- What holds of every state the machine reaches. -/
structure State.Inv (s : State) : Prop where
  /-- VALID = 1 means that the calibration registers hold a set that passed validation (R29, R106). -/
  validated : s.valid = true → s.imageCrc = s.crcStored ∧ s.crcCalc = s.crcStored
  /-- CRC_STORED is the low 4 bits of W7 (R23, R57). -/
  stored : s.crcStored = s.w7.extractLsb' 0 4
  /-- VALID follows the request that runs (R29, R171 to R173). -/
  validSeq : validAt s.valid s.seq
  /-- PEND names the conversion whose result is read next (R27, R125). -/
  pendSeq : pendAt s.cfg.pConvOrder s.pend s.seq
  /-- PROM_READ 0 is issued under DATASHEET8 only (R78, R103). -/
  prom0Seq : s.seq = .init .prom0 → s.cfg.crcWordSet = .datasheet8
  /-- Under DOC7, W0 stays at its reset value (R33). -/
  w0Doc7 : s.cfg.crcWordSet = .doc7 → s.w0 = 0#16
  /-- Status codes 6 and 7 are never produced (R31, R200). -/
  statusLegal : s.lastStatus ≤ 5#3
  /-- The status is one that the last request can end with (R200). -/
  statusFits : statusFitsRequest s.lastStatus s.lastReq
  /-- RESULT is 0 unless the last request is a read that ended with OK (R28). -/
  resultZero : s.result = 0#32 ∨ (s.lastStatus = Status.ok.code ∧ (s.lastReq = 0x2#4 ∨ s.lastReq = 0x3#4))
  /-- The timer holds the count of the wait at SEQ, if there is one (R211; log 10). -/
  timerSeq : s.timer = s.seq.timerLoad s.cfg

/-- At most how many steps of the CCB a request still takes from a position of SEQ (R171 to R173). -/
def SeqPos.stepsLeft : SeqPos → Nat
  | .idle => 0
  | .init .sensorReset => 11
  | .init .resetWait => 10
  | .init .prom0 => 9
  | .init .prom1 => 8
  | .init .prom2 => 7
  | .init .prom3 => 6
  | .init .prom4 => 5
  | .init .prom5 => 4
  | .init .prom6 => 3
  | .init .promCrc => 2
  | .init .validate => 1
  | .readT .conv => 4
  | .readT .convWait => 3
  | .readT .adc => 2
  | .readT .compute => 1
  | .readP .conv1 => 7
  | .readP .wait1 => 6
  | .readP .adc1 => 5
  | .readP .conv2 => 4
  | .readP .wait2 => 3
  | .readP .adc2 => 2
  | .readP .compute => 1

/-- The move presents a request (R170). -/
def HostMove.isRequest : HostMove → Bool
  | .request _ => true
  | .blockReset | .readStatus | .quiet | .otherMaster => false

/-- A run has ended: no request is left among the host's moves and SEQ = IDLE (R179). THE MODEL'S CHOICE (log 22): a
request that a block reset abandoned (R232) is no longer outstanding, so such a run has ended too; and moves that are no
request may remain. -/
def State.ended (s : State) : Bool :=
  !s.host.any HostMove.isRequest && s.seq == .idle

/-- What a run shows: the response events and the bus trace (R179). -/
def State.observation (s : State) : List Response × List BusEvent :=
  (s.responses, s.trace)

/-- What a bus operation leaves beside its own effect when its transaction succeeds: its entry in the trace, its answer
used up, order moved on, and SEQ one step further (R24, R179). Everything else is as before. -/
def State.movedOn (e : BusEvent) (s : State) : State :=
  { s with
    trace := s.trace ++ [e]
    answers := s.answers.tail
    now := s.now + 1
    seq := s.seq.next s.cfg
    timer := (s.seq.next s.cfg).timerLoad s.cfg }

/-- The state with a completion record written (R175, R203): LAST_STATUS, LAST_REQ, RESULT, SEQ = IDLE and one response
event. Everything else is as before. -/
def State.endedWith (code : Nibble) (status : Status) (v : Result) (s : State) : State :=
  { s with
    lastStatus := status.code
    lastReq := code
    result := v
    seq := .idle
    timer := 0
    responses := s.responses ++ [⟨code, status, v⟩] }

/-- The bus transactions the CCB uses, with the number of bytes each returns (R53); a read that fails returns none. -/
def allowedTransaction (p : Params) : BusEvent → Prop
  | .write dev cmd _ => dev = p.devAddr ∧ (cmd = 0x1E#8 ∨ cmd = 0x48#8 ∨ cmd = 0x58#8)
  | .read dev cmd count data =>
    dev = p.devAddr ∧ (∀ bytes, data = some bytes → bytes.length = count) ∧
    ((count = 2 ∧ cmd ∈ [0xA2#8, 0xA4#8, 0xA6#8, 0xA8#8, 0xAA#8, 0xAC#8, 0xAE#8]) ∨
     (count = 2 ∧ cmd = 0xA0#8 ∧ p.crcWordSet = .datasheet8) ∨
     (count = 3 ∧ cmd = 0x00#8))
  | .wait _ => True

/-- The trace entry of a transaction with this command byte that fails (R53, R81). -/
def failedTransaction (p : Params) (cmd : Byte) : BusEvent :=
  if cmd = 0x1E#8 ∨ cmd = 0x48#8 ∨ cmd = 0x58#8 then .write p.devAddr cmd false
  else if cmd = 0x00#8 then .read p.devAddr cmd 3 none
  else .read p.devAddr cmd 2 none

/-- The bus operations of the opcode table (R75). -/
def isBusOperation (i : Instr) : Bool :=
  match encode i with
  | .command _ => true
  | .request _ => false

/-- The state with both sample registers overwritten: what is left when D1 and D2 are not looked at (R26). -/
def State.withSamples (d1 d2 : Sample) (s : State) : State :=
  { s with d1 := d1, d2 := d2 }

/-- The entry is a bus transaction, not a wait (R176). -/
def BusEvent.isTransaction : BusEvent → Bool
  | .write _ _ _ => true
  | .read _ _ _ _ => true
  | .wait _ => false

/-- The outcome is a next state. -/
def isNext : Host.Outcome State Fault Refusal → Bool
  | .next _ => true
  | .fault _ => false
  | .refused _ => false

/-- A run of this many steps from the state meets no fault and no refusal. -/
def State.safeFor (k : Nat) (s : State) : Bool :=
  isNext (Sys2Proof.core.run k s)

end Sys2Proof.Machine
end

