-- ==== Sys2Proof/Certificates/Slice0/Obligations.lean ====
section
/-! DEFINITION. The statements for the provers, one def Obligations.<Name> : Prop each. -/

open Sys2Proof Sys2Proof.Machine

-- ENCODING

/-- R72, R75, R76: decoding the word of a well-formed instruction gives the instruction back, with every operand. -/
def Obligations.DecodeOfEncodeIsIdentity : Prop :=
  ∀ i : Instr, i.wf = true → decode (encode i) = .ok i

/-- R79, R78: every word that decodes has one meaning: its instruction is well-formed and encodes to that word. -/
def Obligations.EncodeOfDecodeIsIdentity : Prop :=
  ∀ (word : PortWord) (i : Instr), decode word = .ok i → i.wf = true ∧ encode i = word

/-- R72, R73, R75, R78: a word fits the fixed bits of exactly the opcode-table row of the instruction it decodes to, and
of no row when the decoder rejects it. -/
def Obligations.WordFitsExactlyItsDecodedRow : Prop :=
  ∀ word : PortWord,
    (∀ i, decode word = .ok i → rowsOf word = [i.mnemonic]) ∧
    (∀ e, decode word = .error e → rowsOf word = [])

/-- R79: each of the 16 request codes is exactly one of INIT, READ_T, READ_P or reserved, and none stops the CCB. -/
def Obligations.RequestDecodingIsTotal : Prop :=
  ∀ code : Nibble, ∃ i : Instr, decode (.request code) = .ok i ∧
    (i = .init ↔ code = 0x1#4) ∧ (i = .readT ↔ code = 0x2#4) ∧ (i = .readP ↔ code = 0x3#4) ∧
    ((i = .reserved0 ∨ i = .reserved4to7 code ∨ i = .reserved8toF code) ↔ (code = 0x0#4 ∨ 0x4#4 ≤ code)) ∧
    ∀ s : State, ∃ t, exec i s = .next t

/-- R76: the PROM command of index n is `0xA0 | (n << 1)`, which is `0b1010_nnn_0`, and `n = CMD[3:1]` is read back from
every command with those fixed bits. -/
def Obligations.PromCommandCarriesTheIndex : Prop :=
  (∀ n : BitVec 3, promCommand n = 0b1010#4 ++ n ++ 0b0#1 ∧
    (promCommand n).toNat = 0xA0 + 2 * n.toNat ∧
    decode (.command (promCommand n)) = .ok (promReadOf n) ∧ promIndex (promCommand n) = n) ∧
  (∀ cmd : Byte, cmd.extractLsb' 4 4 = 0b1010#4 → cmd.extractLsb' 0 1 = 0b0#1 →
    promCommand (cmd.extractLsb' 1 3) = cmd) ∧
  promCommand 1#3 = 0xA2#8 ∧ promCommand 7#3 = 0xAE#8

/-- R72, R74, R75: a word of each family, written out bit by bit. -/
def Obligations.WrittenOutWordsDecode : Prop :=
  decode (.request 0b0001#4) = .ok .init ∧ decode (.request 0b0010#4) = .ok .readT ∧
  decode (.request 0b0011#4) = .ok .readP ∧ decode (.request 0b0110#4) = .ok (.reserved4to7 0b0110#4) ∧
  decode (.command 0b00011110#8) = .ok .sensorReset ∧ decode (.command 0b10100110#8) = .ok .promRead3 ∧
  decode (.command 0b10101110#8) = .ok .promReadCrc ∧ decode (.command 0b01011000#8) = .ok .convD2 ∧
  decode (.command 0b00000000#8) = .ok .adcRead

-- THE STEP AND THE SEQUENCER

/-- R24, R75, R170: a step runs the instruction that the command byte at SEQ, or the accepted request code, decodes to. -/
def Obligations.StepRunsDecodedInstruction : Prop :=
  (∀ (s : State) (cmd : Byte) (i : Instr), s.host = [] →
    s.seq.work s.cfg = .command cmd → decode (.command cmd) = .ok i → step s = exec i s) ∧
  (∀ (s : State) (rest : List HostMove) (cmd : Byte) (i : Instr), s.host = .quiet :: rest →
    s.seq.work s.cfg = .command cmd → decode (.command cmd) = .ok i → step s = exec i { s with host := rest }) ∧
  (∀ (s : State) (rest : List HostMove) (code : Nibble) (i : Instr), s.host = .request code :: rest →
    s.seq = .idle → decode (.request code) = .ok i → step s = exec i { s with host := rest })

/-- Log 17: the step after a table word is placed runs the instruction that the word decodes to. -/
def Obligations.PlacedTableWordRunsNext : Prop :=
  ∀ (s : State) (nbits w : Nat) (i : Instr), decodeTableWord nbits w = some i →
    step (s.withFetchWord nbits w) = exec i { s.withFetchWord nbits w with host := s.host }

/-- R24, R236, R237: at a wait the step only lets SEQ advance; the wait is on the trace, and nothing else changes. -/
def Obligations.WaitOnlyAdvancesTheSequencer : Prop :=
  ∀ (s : State) (ms : Nat), s.host = [] → s.seq.work s.cfg = .wait ms →
    step s = .next { s with
      trace := s.trace ++ [.wait ms], now := s.now + 1
      seq := s.seq.next s.cfg, timer := (s.seq.next s.cfg).timerLoad s.cfg }

/-- R236, R237: SENSOR_RESET is followed by a wait of 3 ms, at least 2.8 ms, before INIT's next transaction; a conversion
command is followed by a wait of 9 ms, at least 8.22 ms, and then by ADC_READ. ADC_READ has no other predecessor. -/
def Obligations.WaitsStandBetweenCommandAndRead : Prop :=
  (∀ (p : Params) (q : SeqPos), q.work p = .command 0x1E#8 → (q.next p).work p = .wait tResetWait) ∧
  (∀ (p : Params) (q : SeqPos), q.work p = .command 0x48#8 ∨ q.work p = .command 0x58#8 →
    (q.next p).work p = .wait tConvWait ∧ ((q.next p).next p).work p = .command 0x00#8) ∧
  (∀ (p : Params) (q : SeqPos), (q.next p).work p = .command 0x00#8 → q.work p = .wait tConvWait) ∧
  (tResetWait = 3 ∧ 2800 ≤ tResetWait * 1000) ∧ (tConvWait = 9 ∧ 8220 ≤ tConvWait * 1000)

/-- R211: the timer's count for a wait is `ceil(t * F_CLK)`: enough cycles, and no cycle too many. THE MODEL'S CHOICE
(log 9): t is in milliseconds and F_CLK a whole number of hertz, which gives the factor 1000. -/
def Obligations.TimerCountIsTheCeiling : Prop :=
  ∀ ms f : Nat, ms * f ≤ waitCycles ms f * 1000 ∧ (∀ n, ms * f ≤ n * 1000 → waitCycles ms f ≤ n)

/-- R24, R25, R174, R175: every instruction completes its step in every state: exec never faults and never refuses. -/
def Obligations.EveryInstructionAnswersANextState : Prop :=
  ∀ (i : Instr) (s : State), ∃ t, exec i s = .next t

/-- R178, U10: a step stops only when another master drives the sensor while BUSY = 1; it never refuses. -/
def Obligations.StepStopsOnlyOnForeignMaster : Prop :=
  ∀ s : State,
    (∀ r, step s ≠ .refused r) ∧
    (∀ f, step s = .fault f ↔
      f = .hostActionOutsideTable ∧ s.seq ≠ .idle ∧ ∃ rest, s.host = .otherMaster :: rest)

-- HOST REQUESTS

/-- R171: INIT accepted by the idle CCB clears VALID and SEQ leaves IDLE for SENSOR_RESET (log 1); CRC_STORED is held for
the STATUS word (log 3); nothing else changes. -/
def Obligations.InitClearsValidAndStarts : Prop :=
  ∀ s : State, s.seq = .idle →
    exec .init s = .next { s with valid := false, crcHeld := s.crcStored, seq := .init .sensorReset, timer := 0 }

/-- R172, R173: READ_T and READ_P accepted with VALID = 1 leave IDLE for their first conversion; nothing else changes. -/
def Obligations.ReadsStartWhenValid : Prop :=
  ∀ s : State, s.seq = .idle → s.valid = true →
    exec .readT s = .next { s with seq := .readT .conv, timer := 0 } ∧
    exec .readP s = .next { s with seq := .readP .conv1, timer := 0 }

/-- R204: READ_T and READ_P accepted with VALID = 0 complete with NOT_INITIALIZED and RESULT = 0 in that step; no
transaction is issued, and nothing but the completion record changes. THE MODEL'S CHOICE (log 1): the check and the
completion are the acceptance step itself, so that SEQ does not leave IDLE. -/
def Obligations.ReadsBeforeInitializationEnd : Prop :=
  ∀ s : State, s.seq = .idle → s.valid = false →
    exec .readT s = .next { s with
      lastStatus := 4#3, lastReq := 0x2#4, result := 0#32, timer := 0
      responses := s.responses ++ [⟨0x2#4, .notInitialized, 0#32⟩] } ∧
    exec .readP s = .next { s with
      lastStatus := 4#3, lastReq := 0x3#4, result := 0#32, timer := 0
      responses := s.responses ++ [⟨0x3#4, .notInitialized, 0#32⟩] }

/-- R174, R205: a reserved code completes with (ILLEGAL_REQUEST, 0) at once, and LAST_REQ holds the code; nothing else
changes. THE MODEL'S CHOICE (log 1): at once is the acceptance step itself, so that SEQ does not leave IDLE. -/
def Obligations.ReservedCodesEndAsIllegal : Prop :=
  ∀ (s : State) (code : Nibble), s.seq = .idle →
    exec .reserved0 s = .next { s with
      lastStatus := 5#3, lastReq := 0x0#4, result := 0#32, timer := 0
      responses := s.responses ++ [⟨0x0#4, .illegalRequest, 0#32⟩] } ∧
    exec (.reserved4to7 code) s = .next { s with
      lastStatus := 5#3, lastReq := code, result := 0#32, timer := 0
      responses := s.responses ++ [⟨code, .illegalRequest, 0#32⟩] } ∧
    exec (.reserved8toF code) s = .next { s with
      lastStatus := 5#3, lastReq := code, result := 0#32, timer := 0
      responses := s.responses ++ [⟨code, .illegalRequest, 0#32⟩] }

/-- R170, R239: while BUSY = 1 a presented request is held: the CCB takes its own step, the same as with no request
there, and the request still stands at the head of the host's moves. Presented to exec, it changes nothing. -/
def Obligations.RequestIsHeldWhileBusy : Prop :=
  (∀ (s : State) (code : Nibble) (rest : List HostMove), s.seq ≠ .idle → s.host = .request code :: rest →
    ∃ t, step s = .next t ∧ t.host = .request code :: rest ∧
      step { s with host := [] } = .next { t with host := [] }) ∧
  (∀ (s : State) (i : Instr), s.seq ≠ .idle → isBusOperation i = false → exec i s = .next s)

-- BUS OPERATIONS

/-- R100, R233: SENSOR_RESET sets PEND to NONE and changes no other register; the sensor's PROM stays. -/
def Obligations.SensorResetChangesOnlyPend : Prop :=
  ∀ (s : State) (b0 b1 b2 : Byte), s.busAnswer 0x1E#8 = .ok b0 b1 b2 →
    ∃ sensor : Sensor, sensor.prom = s.sensor.prom ∧
      exec .sensorReset s =
        .next { s.movedOn (.write s.cfg.devAddr 0x1E#8 true) with pend := .none, sensor := sensor }

/-- R101, R55, R60: PROM_READ n writes `C[n] <- b0 * 2^8 + b1` and nothing else; when the read fails it ends the request
with TRANSPORT_ERROR and writes no calibration word. -/
def Obligations.PromReadStoresItsCalibrationWord : Prop :=
  (∀ (s : State) (i : Instr) (cmd : Byte) (code : Nibble),
    i ∈ [Instr.promRead1, Instr.promRead2, Instr.promRead3, Instr.promRead4, Instr.promRead5, Instr.promRead6] →
    encode i = .command cmd → s.busAnswer cmd = .transportError → s.seq.requestCode = some code →
    ∃ t, exec i s = .next t ∧ t.c = s.c ∧ t.responses = s.responses ++ [⟨code, .transportError, 0#32⟩]) ∧
  (∀ (s : State) (b0 b1 b2 : Byte) (v : Word), v.toNat = b0.toNat * 2 ^ 8 + b1.toNat →
    (s.busAnswer 0xA2#8 = .ok b0 b1 b2 →
      exec .promRead1 s = .next { s.movedOn (.read s.cfg.devAddr 0xA2#8 2 (some [b0, b1])) with
        c := { s.c with c1 := v } }) ∧
    (s.busAnswer 0xA4#8 = .ok b0 b1 b2 →
      exec .promRead2 s = .next { s.movedOn (.read s.cfg.devAddr 0xA4#8 2 (some [b0, b1])) with
        c := { s.c with c2 := v } }) ∧
    (s.busAnswer 0xA6#8 = .ok b0 b1 b2 →
      exec .promRead3 s = .next { s.movedOn (.read s.cfg.devAddr 0xA6#8 2 (some [b0, b1])) with
        c := { s.c with c3 := v } }) ∧
    (s.busAnswer 0xA8#8 = .ok b0 b1 b2 →
      exec .promRead4 s = .next { s.movedOn (.read s.cfg.devAddr 0xA8#8 2 (some [b0, b1])) with
        c := { s.c with c4 := v } }) ∧
    (s.busAnswer 0xAA#8 = .ok b0 b1 b2 →
      exec .promRead5 s = .next { s.movedOn (.read s.cfg.devAddr 0xAA#8 2 (some [b0, b1])) with
        c := { s.c with c5 := v } }) ∧
    (s.busAnswer 0xAC#8 = .ok b0 b1 b2 →
      exec .promRead6 s = .next { s.movedOn (.read s.cfg.devAddr 0xAC#8 2 (some [b0, b1])) with
        c := { s.c with c6 := v } }))

/-- R102, R57: PROM_READ_CRC writes `W7 <- b0 * 2^8 + b1` and `CRC_STORED <- b1 & 0xF`, which is `W7 & 0xF`, and nothing
else; when the read fails it ends the request with TRANSPORT_ERROR and writes neither. -/
def Obligations.PromReadCrcStoresWordAndChecksum : Prop :=
  (∀ (s : State) (code : Nibble), s.busAnswer 0xAE#8 = .transportError → s.seq.requestCode = some code →
    ∃ t, exec .promReadCrc s = .next t ∧ t.w7 = s.w7 ∧ t.crcStored = s.crcStored ∧
      t.responses = s.responses ++ [⟨code, .transportError, 0#32⟩]) ∧
  (∀ (s : State) (b0 b1 b2 : Byte) (v : Word) (k : Nibble), s.busAnswer 0xAE#8 = .ok b0 b1 b2 →
    v.toNat = b0.toNat * 2 ^ 8 + b1.toNat → k.toNat = b1.toNat &&& 0xF →
    k.toNat = v.toNat &&& 0xF ∧
    exec .promReadCrc s = .next { s.movedOn (.read s.cfg.devAddr 0xAE#8 2 (some [b0, b1])) with
      w7 := v, crcStored := k })

/-- R103: PROM_READ 0 writes `W0 <- b0 * 2^8 + b1` and nothing else. -/
def Obligations.PromReadZeroStoresWordZero : Prop :=
  ∀ (s : State) (b0 b1 b2 : Byte) (v : Word), s.busAnswer 0xA0#8 = .ok b0 b1 b2 →
    v.toNat = b0.toNat * 2 ^ 8 + b1.toNat →
    exec .promRead0 s = .next { s.movedOn (.read s.cfg.devAddr 0xA0#8 2 (some [b0, b1])) with w0 := v }

/-- R120, R121: a conversion command sets PEND to its channel and changes no other register; in the sensor a conversion
of that channel is in progress and the PROM stays. -/
def Obligations.ConversionCommandSetsPend : Prop :=
  ∀ (s : State) (b0 b1 b2 : Byte),
    (s.busAnswer 0x48#8 = .ok b0 b1 b2 →
      ∃ sensor : Sensor, sensor.prom = s.sensor.prom ∧
        sensor.conversion.map Conversion.channel = some .pressure ∧
        exec .convD1 s = .next { s.movedOn (.write s.cfg.devAddr 0x48#8 true) with
          pend := .pressure, sensor := sensor }) ∧
    (s.busAnswer 0x58#8 = .ok b0 b1 b2 →
      ∃ sensor : Sensor, sensor.prom = s.sensor.prom ∧
        sensor.conversion.map Conversion.channel = some .temperature ∧
        exec .convD2 s = .next { s.movedOn (.write s.cfg.devAddr 0x58#8 true) with
          pend := .temperature, sensor := sensor })

/-- R122, R56, R125: ADC_READ writes `b0 * 2^16 + b1 * 2^8 + b2` to D1 if PEND = PRESSURE, to D2 if PEND = TEMPERATURE,
and then PEND <- NONE; no other register changes. -/
def Obligations.AdcReadStoresByPend : Prop :=
  ∀ (s : State) (b0 b1 b2 : Byte) (v : Sample), s.busAnswer 0x00#8 = .ok b0 b1 b2 →
    v.toNat = b0.toNat * 2 ^ 16 + b1.toNat * 2 ^ 8 + b2.toNat →
    ∃ sensor : Sensor, sensor.prom = s.sensor.prom ∧
      exec .adcRead s = .next { s.movedOn (.read s.cfg.devAddr 0x00#8 3 (some [b0, b1, b2])) with
        d1 := if s.pend = .pressure then v else s.d1
        d2 := if s.pend = .temperature then v else s.d2
        pend := .none
        sensor := sensor }

/-- R202, R203, R60: a bus operation whose transaction fails ends the running request in that step with
(TRANSPORT_ERROR, 0); its one transaction is on the trace, its destination register is not written, VALID keeps its
value, and no register but the completion record changes. In an INIT, VALID is 0. -/
def Obligations.TransportErrorEndsTheRequest : Prop :=
  ∀ (s : State) (i : Instr) (cmd : Byte) (code : Nibble), encode i = .command cmd →
    s.seq.requestCode = some code → s.busAnswer cmd = .transportError →
    (∃ sensor : Sensor, sensor.prom = s.sensor.prom ∧
      exec i s = .next { s with
        lastStatus := 3#3, lastReq := code, result := 0#32, seq := .idle, timer := 0
        responses := s.responses ++ [⟨code, .transportError, 0#32⟩]
        trace := s.trace ++ [failedTransaction s.cfg cmd]
        answers := s.answers.tail, now := s.now + 1, sensor := sensor }) ∧
    (s.Inv → code = 0x1#4 → s.valid = false)

/-- Log 14: with SEQ = IDLE, where the CCB issues no bus operation, a failed transaction has no request to end and
writes no register. -/
def Obligations.FailedOperationOutsideARequestWritesNothing : Prop :=
  ∀ (s : State) (i : Instr) (cmd : Byte), encode i = .command cmd → s.seq = .idle →
    s.busAnswer cmd = .transportError →
    ∃ sensor : Sensor, sensor.prom = s.sensor.prom ∧
      exec i s = .next { s with
        trace := s.trace ++ [failedTransaction s.cfg cmd]
        answers := s.answers.tail, now := s.now + 1, sensor := sensor }

/-- R53, R54, R78: a step puts at most one entry on the bus trace, and it is a wait or one of the transactions the CCB
uses, addressed to DEV_ADDR, with exactly the bytes that transaction returns; 0xA0 is read under DATASHEET8 only. -/
def Obligations.OnlyListedTransactionsAreIssued : Prop :=
  ∀ s t : State, s.Inv → step s = .next t →
    t.trace = s.trace ∨ ∃ e, t.trace = s.trace ++ [e] ∧ allowedTransaction s.cfg e

-- THE CHECKSUM VALIDATOR

/-- R106, R171, R201: the validation writes CRC_CALC; on a match VALID becomes 1 and INIT ends with (OK, 0), otherwise
INIT ends with (CAL_ERROR, 0) and VALID keeps its value, which is 0. No transaction is issued. -/
def Obligations.ValidationComparesTheChecksums : Prop :=
  ∀ s : State, s.host = [] → s.seq = .init .validate →
    (s.imageCrc = s.crcStored →
      step s = .next { s.endedWith 0x1#4 .ok 0#32 with crcCalc := s.imageCrc, valid := true }) ∧
    (s.imageCrc ≠ s.crcStored →
      step s = .next { s.endedWith 0x1#4 .calError 0#32 with crcCalc := s.imageCrc }) ∧
    (s.Inv → s.valid = false)

/-- R107: an image that passes is rejected with CAL_ERROR when its stored checksum alone is altered, under both word
lists. -/
def Obligations.AlteredStoredChecksumIsRejected : Prop :=
  ∀ (s : State) (w7 : Word), s.host = [] → s.seq = .init .validate →
    s.crcStored = s.w7.extractLsb' 0 4 → s.imageCrc = s.crcStored →
    w7.extractLsb' 4 12 = s.w7.extractLsb' 4 12 → w7 ≠ s.w7 →
    ∃ t, step { s with w7 := w7, crcStored := w7.extractLsb' 0 4 } = .next t ∧
      t.lastStatus = Status.calError.code ∧ t.valid = s.valid ∧ t.crcCalc = s.imageCrc

/-- R108: under DOC7 the checksum is `h(C[1..6], W7[15:8]) xor W7[7:4] xor CRC_FINAL_XOR` for one function h, so that a
change of W7[7:4] alone always changes it, and an image in which W7[7:4] and W7[3:0] are XORed with the same value still
passes. Under DATASHEET8, W7[7:4] takes no part. -/
def Obligations.HighNibbleOfTheLowByteInTheChecksum : Prop :=
  (∃ h : Calib → Byte → Nibble, ∀ (w0 : Word) (c : Calib) (w7 : Word) (x : Nibble),
    crc4 (crcWordList .doc7 w0 c w7) x = h c (w7.extractLsb' 8 8) ^^^ w7.extractLsb' 4 4 ^^^ x) ∧
  (∀ (w0 : Word) (c : Calib) (w7 : Word) (x d : Nibble), d ≠ 0#4 →
    crc4 (crcWordList .doc7 w0 c (w7 ^^^ (0#8 ++ d ++ 0#4))) x ≠ crc4 (crcWordList .doc7 w0 c w7) x) ∧
  (∀ (w0 : Word) (c : Calib) (w7 : Word) (x d : Nibble),
    crc4 (crcWordList .doc7 w0 c w7) x = w7.extractLsb' 0 4 →
    crc4 (crcWordList .doc7 w0 c (w7 ^^^ (0#8 ++ d ++ d))) x = (w7 ^^^ (0#8 ++ d ++ d)).extractLsb' 0 4) ∧
  (∀ (w0 : Word) (c : Calib) (w7 : Word) (x d : Nibble),
    crc4 (crcWordList .datasheet8 w0 c (w7 ^^^ (0#8 ++ d ++ 0#4))) x = crc4 (crcWordList .datasheet8 w0 c w7) x)

/-- R109: the two word lists give the same checksum when W0 = 0 and W7[7:4] = 0: the DATASHEET8 list is then the DOC7
list with a zero word in front, and a zero word in front has no effect. -/
def Obligations.WordListsAgreeOnZeroWords : Prop :=
  ∀ (c : Calib) (w7 : Word) (x : Nibble), w7.extractLsb' 4 4 = 0#4 →
    crc4 (crcWordList .datasheet8 0#16 c w7) x = crc4 (crcWordList .doc7 0#16 c w7) x ∧
    crcWordList .datasheet8 0#16 c w7 = 0#16 :: crcWordList .doc7 0#16 c w7

/-- R105, corner cases: all-zero words give CRC_FINAL_XOR, and zero words at the front do not change the result. -/
def Obligations.ZeroWordsDoNotMoveTheChecksum : Prop :=
  ∀ (n : Nat) (words : List Word) (x : Nibble),
    crc4 (List.replicate n 0#16) x = x ∧ crc4 (List.replicate n 0#16 ++ words) x = crc4 words x

-- THE COMPENSATION

/-- R9: tdiv truncates toward zero. -/
def Obligations.DivisionTruncatesTowardZero : Prop :=
  ∀ a b : Int, 0 < b → tdiv a b = a.sign * (((a.natAbs / b.natAbs : Nat)) : Int)

/-- R142, corner case: whenever `|dT * C[6]| < 2^23`, for negative dT too, TEMP is 2000 exactly. -/
def Obligations.SmallProductsGiveReferenceTemperature : Prop :=
  ∀ (c : Calib) (d2 : Sample), (dTOf c d2 * uint c.c6).natAbs < 2 ^ 23 → tempOf c d2 = 2000

/-- R144: in the warm branch T2, OFF2 and SENS2 are 0, so the results are those of the first-order formulas. -/
def Obligations.WarmBranchHasNoCorrection : Prop :=
  ∀ (c : Calib) (d1 d2 : Sample), 2000 ≤ tempOf c d2 →
    t2Of c d2 = 0 ∧ second (tempOf c d2) = (0, 0) ∧ compT c d2 = tempOf c d2 ∧
    compP c d1 d2 = tdiv (tdiv (uint d1 * sensOf c d2) (2 ^ 21) - offOf c d2) (2 ^ 15)

/-- R146, R147, R148: the second-order terms by range of the uncorrected TEMP, the very-cold terms added to the
truncated base terms. -/
def Obligations.SecondOrderTermsByRange : Prop :=
  ∀ temp : Int,
    (-1500 ≤ temp → temp < 2000 →
      second temp = (tdiv (5 * (temp - 2000) ^ 2) 2, tdiv (5 * (temp - 2000) ^ 2) 4)) ∧
    (temp < -1500 →
      second temp = (tdiv (5 * (temp - 2000) ^ 2) 2 + 7 * (temp + 1500) ^ 2,
        tdiv (5 * (temp - 2000) ^ 2) 4 + tdiv (11 * (temp + 1500) ^ 2) 2))

/-- R149, R150, R151, R152, R153: CompT and CompP of R154 are the composition of the single formulas. -/
def Obligations.CompensationIsTheComposedFormulas : Prop :=
  ∀ (c : Calib) (d1 d2 : Sample), compT c d2 = tempOutOf c d2 ∧ compP c d1 d2 = pressureOf c d1 d2

/-- R141, R142, R145, R149, R153: the ranges of dT, TEMP, T2, TEMP_OUT and P over all inputs. -/
def Obligations.CompensationRanges : Prop :=
  ∀ (c : Calib) (d1 d2 : Sample),
    (-16776960 ≤ dTOf c d2 ∧ dTOf c d2 ≤ 16777215) ∧
    (-129068 ≤ tempOf c d2 ∧ tempOf c d2 ≤ 133069) ∧
    (0 ≤ t2Of c d2 ∧ t2Of c d2 ≤ 131071) ∧
    (-260139 ≤ compT c d2 ∧ compT c d2 ≤ 133069) ∧
    (-28536062 ≤ compP c d1 d2 ∧ compP c d1 d2 ≤ 6622030)

/-- R157: every intermediate has magnitude at most 1933962126619022955, over the whole input domain. -/
def Obligations.IntermediatesAreBounded : Prop :=
  ∀ (c : Calib) (d1 d2 : Sample), ∀ v ∈ intermediates c d1 d2, v.natAbs ≤ 1933962126619022955

/-- R157, R155: a 64-bit signed datapath computes CompT and CompP exactly, for every input. -/
def Obligations.SixtyFourBitDatapathIsExact : Prop :=
  ∀ (c : Calib) (d1 d2 : Sample),
    (compT64 c d2).toInt = compT c d2 ∧ (compP64 c d1 d2).toInt = compP c d1 d2

/-- R158, R172, R173: the compute step ends the read with OK; RESULT read as a signed number is CompT or CompP of the
registers, without truncation, both lying within ±2^25, and only the completion record changes. -/
def Obligations.ComputeStepsReturnTheCompensation : Prop :=
  (∀ (c : Calib) (d1 d2 : Sample), (compT c d2).natAbs ≤ 2 ^ 25 ∧ (compP c d1 d2).natAbs ≤ 2 ^ 25) ∧
  (∀ s : State, s.host = [] → s.seq = .readT .compute →
    ∃ v : Result, v.toInt = compT s.c s.d2 ∧ step s = .next (s.endedWith 0x2#4 .ok v)) ∧
  (∀ s : State, s.host = [] → s.seq = .readP .compute →
    ∃ v : Result, v.toInt = compP s.c s.d1 s.d2 ∧ step s = .next (s.endedWith 0x3#4 .ok v))

-- WHOLE REQUESTS

/-- R171, R104, R106, R176: an INIT under DOC7 whose eight transactions succeed loads C[1..6], W7 and CRC_STORED in
order, computes CRC_CALC over the seven words, and ends with OK and VALID = 1 exactly if the checksums match, with
CAL_ERROR and VALID = 0 otherwise; the bus sees eight transactions and one wait, and no register but those changes
(CRC_STORED is held for STATUS at the acceptance, log 3). -/
def Obligations.InitLoadsAndValidates : Prop :=
  ∀ (s : State) (hi lo x : Nat → Byte) (w : Nat → Word) (rest : List BusAnswer),
    s.seq = .idle → s.host = [.request 0x1#4] → s.cfg.crcWordSet = .doc7 →
    s.answers = [BusAnswer.ok (hi 0) (lo 0) (x 0), BusAnswer.ok (hi 1) (lo 1) (x 1), BusAnswer.ok (hi 2) (lo 2) (x 2), BusAnswer.ok (hi 3) (lo 3) (x 3),
      BusAnswer.ok (hi 4) (lo 4) (x 4), BusAnswer.ok (hi 5) (lo 5) (x 5), BusAnswer.ok (hi 6) (lo 6) (x 6), BusAnswer.ok (hi 7) (lo 7) (x 7)] ++ rest →
    (∀ n, (w n).toNat = (hi n).toNat * 2 ^ 8 + (lo n).toNat) →
    ∃ t : State, Sys2Proof.core.run 11 s = .next t ∧
      t.c = ⟨w 1, w 2, w 3, w 4, w 5, w 6⟩ ∧
      t.w7 = w 7 ∧ t.crcStored = (lo 7).extractLsb' 0 4 ∧
      t.crcCalc = crc4 [w 1, w 2, w 3, w 4, w 5, w 6,
        w 7 &&& 0xFFF0#16] s.cfg.crcFinalXor ∧
      t.valid = decide (t.crcCalc = t.crcStored) ∧
      t.lastStatus = (if t.crcCalc = t.crcStored then 1#3 else 2#3) ∧
      t.lastReq = 0x1#4 ∧ t.result = 0#32 ∧ t.seq = .idle ∧ t.pend = .none ∧
      t.responses = s.responses ++ [⟨0x1#4, if t.crcCalc = t.crcStored then .ok else .calError, 0#32⟩] ∧
      t.trace = s.trace ++ [BusEvent.write s.cfg.devAddr 0x1E#8 true, BusEvent.wait 3,
        BusEvent.read s.cfg.devAddr 0xA2#8 2 (some [hi 1, lo 1]), BusEvent.read s.cfg.devAddr 0xA4#8 2 (some [hi 2, lo 2]),
        BusEvent.read s.cfg.devAddr 0xA6#8 2 (some [hi 3, lo 3]), BusEvent.read s.cfg.devAddr 0xA8#8 2 (some [hi 4, lo 4]),
        BusEvent.read s.cfg.devAddr 0xAA#8 2 (some [hi 5, lo 5]), BusEvent.read s.cfg.devAddr 0xAC#8 2 (some [hi 6, lo 6]),
        BusEvent.read s.cfg.devAddr 0xAE#8 2 (some [hi 7, lo 7])] ∧
      t.answers = rest ∧ t.host = [] ∧ t.cfg = s.cfg ∧ t.w0 = s.w0 ∧ t.d1 = s.d1 ∧ t.d2 = s.d2 ∧
      t.crcHeld = s.crcStored ∧ t.statusReads = s.statusReads

/-- R171, R103, R104, R176: under DATASHEET8 INIT reads PROM word 0 first, issues nine transactions, and computes the
checksum over the eight words (CRC_STORED is held for STATUS at the acceptance, log 3). -/
def Obligations.InitReadsWordZeroUnderDatasheet8 : Prop :=
  ∀ (s : State) (hi lo x : Nat → Byte) (w : Nat → Word) (rest : List BusAnswer),
    s.seq = .idle → s.host = [.request 0x1#4] → s.cfg.crcWordSet = .datasheet8 →
    s.answers = [BusAnswer.ok (hi 8) (lo 8) (x 8), BusAnswer.ok (hi 0) (lo 0) (x 0), BusAnswer.ok (hi 1) (lo 1) (x 1), BusAnswer.ok (hi 2) (lo 2) (x 2),
      BusAnswer.ok (hi 3) (lo 3) (x 3), BusAnswer.ok (hi 4) (lo 4) (x 4), BusAnswer.ok (hi 5) (lo 5) (x 5), BusAnswer.ok (hi 6) (lo 6) (x 6),
      BusAnswer.ok (hi 7) (lo 7) (x 7)] ++ rest →
    (∀ n, (w n).toNat = (hi n).toNat * 2 ^ 8 + (lo n).toNat) →
    ∃ t : State, Sys2Proof.core.run 12 s = .next t ∧
      t.w0 = w 0 ∧
      t.c = ⟨w 1, w 2, w 3, w 4, w 5, w 6⟩ ∧
      t.w7 = w 7 ∧ t.crcStored = (lo 7).extractLsb' 0 4 ∧
      t.crcCalc = crc4 [w 0, w 1, w 2, w 3, w 4, w 5,
        w 6, w 7 &&& 0xFF00#16] s.cfg.crcFinalXor ∧
      t.valid = decide (t.crcCalc = t.crcStored) ∧
      t.lastStatus = (if t.crcCalc = t.crcStored then 1#3 else 2#3) ∧
      t.lastReq = 0x1#4 ∧ t.result = 0#32 ∧ t.seq = .idle ∧ t.pend = .none ∧
      t.responses = s.responses ++ [⟨0x1#4, if t.crcCalc = t.crcStored then .ok else .calError, 0#32⟩] ∧
      t.trace = s.trace ++ [BusEvent.write s.cfg.devAddr 0x1E#8 true, BusEvent.wait 3,
        BusEvent.read s.cfg.devAddr 0xA0#8 2 (some [hi 0, lo 0]),
        BusEvent.read s.cfg.devAddr 0xA2#8 2 (some [hi 1, lo 1]), BusEvent.read s.cfg.devAddr 0xA4#8 2 (some [hi 2, lo 2]),
        BusEvent.read s.cfg.devAddr 0xA6#8 2 (some [hi 3, lo 3]), BusEvent.read s.cfg.devAddr 0xA8#8 2 (some [hi 4, lo 4]),
        BusEvent.read s.cfg.devAddr 0xAA#8 2 (some [hi 5, lo 5]), BusEvent.read s.cfg.devAddr 0xAC#8 2 (some [hi 6, lo 6]),
        BusEvent.read s.cfg.devAddr 0xAE#8 2 (some [hi 7, lo 7])] ∧
      t.answers = rest ∧ t.host = [] ∧ t.cfg = s.cfg ∧ t.d1 = s.d1 ∧ t.d2 = s.d2 ∧ t.crcHeld = s.crcStored ∧
      t.statusReads = s.statusReads

/-- R172, R176: a READ_T with VALID = 1 whose two transactions succeed ends with (OK, CompT(C, D2)) of the fresh D2; no
calibration register, D1 or VALID changes. -/
def Obligations.ReadTReturnsFreshTemperature : Prop :=
  ∀ (s : State) (a0 a1 a2 b0 b1 b2 : Byte) (d2 : Sample) (rest : List BusAnswer),
    s.seq = .idle → s.valid = true → s.host = [.request 0x2#4] →
    s.answers = [BusAnswer.ok a0 a1 a2, BusAnswer.ok b0 b1 b2] ++ rest →
    d2.toNat = b0.toNat * 2 ^ 16 + b1.toNat * 2 ^ 8 + b2.toNat →
    ∃ t : State, Sys2Proof.core.run 5 s = .next t ∧
      t.result.toInt = compT s.c d2 ∧ t.d2 = d2 ∧ t.lastStatus = 1#3 ∧ t.lastReq = 0x2#4 ∧ t.seq = .idle ∧
      t.responses = s.responses ++ [⟨0x2#4, .ok, t.result⟩] ∧
      t.trace = s.trace ++ [BusEvent.write s.cfg.devAddr 0x58#8 true, BusEvent.wait 9,
        BusEvent.read s.cfg.devAddr 0x00#8 3 (some [b0, b1, b2])] ∧
      t.pend = .none ∧ t.answers = rest ∧ t.host = [] ∧ t.cfg = s.cfg ∧ t.c = s.c ∧ t.w0 = s.w0 ∧ t.w7 = s.w7 ∧
      t.crcStored = s.crcStored ∧ t.crcHeld = s.crcHeld ∧ t.crcCalc = s.crcCalc ∧ t.valid = true ∧ t.d1 = s.d1 ∧
      t.statusReads = s.statusReads

/-- R173, R156, R176: a READ_P with VALID = 1 whose four transactions succeed converts both channels in the order of
P_CONV_ORDER and ends with (OK, CompP(C, D1, D2)) of its own two samples; no calibration register or VALID changes. -/
def Obligations.ReadPReturnsFreshPressure : Prop :=
  ∀ (s : State) (a b e f : Nat → Byte) (d1 d2 : Sample) (rest : List BusAnswer) (order : ConvOrder),
    s.seq = .idle → s.valid = true → s.host = [.request 0x3#4] → s.cfg.pConvOrder = order →
    s.answers = [BusAnswer.ok (a 0) (a 1) (a 2), BusAnswer.ok (b 0) (b 1) (b 2), BusAnswer.ok (e 0) (e 1) (e 2), BusAnswer.ok (f 0) (f 1) (f 2)] ++ rest →
    d1.toNat = (if order = .d1First then (b 0).toNat * 2 ^ 16 + (b 1).toNat * 2 ^ 8 + (b 2).toNat
      else (f 0).toNat * 2 ^ 16 + (f 1).toNat * 2 ^ 8 + (f 2).toNat) →
    d2.toNat = (if order = .d1First then (f 0).toNat * 2 ^ 16 + (f 1).toNat * 2 ^ 8 + (f 2).toNat
      else (b 0).toNat * 2 ^ 16 + (b 1).toNat * 2 ^ 8 + (b 2).toNat) →
    ∃ t : State, Sys2Proof.core.run 8 s = .next t ∧
      t.result.toInt = compP s.c d1 d2 ∧ t.d1 = d1 ∧ t.d2 = d2 ∧ t.lastStatus = 1#3 ∧ t.lastReq = 0x3#4 ∧
      t.seq = .idle ∧ t.responses = s.responses ++ [⟨0x3#4, .ok, t.result⟩] ∧
      t.trace = s.trace ++ [BusEvent.write s.cfg.devAddr (if order = .d1First then 0x48#8 else 0x58#8) true, BusEvent.wait 9,
        BusEvent.read s.cfg.devAddr 0x00#8 3 (some [b 0, b 1, b 2]),
        BusEvent.write s.cfg.devAddr (if order = .d1First then 0x58#8 else 0x48#8) true, BusEvent.wait 9,
        BusEvent.read s.cfg.devAddr 0x00#8 3 (some [f 0, f 1, f 2])] ∧
      t.pend = .none ∧ t.answers = rest ∧ t.host = [] ∧ t.cfg = s.cfg ∧ t.c = s.c ∧ t.w0 = s.w0 ∧ t.w7 = s.w7 ∧
      t.crcStored = s.crcStored ∧ t.crcHeld = s.crcHeld ∧ t.crcCalc = s.crcCalc ∧ t.valid = true ∧ t.statusReads = s.statusReads

/-- R24, R175: with no host move to come, every running request ends within 11 steps of the CCB, with exactly one
response, for its own code. That it ends rests on R240's fairness premise, which the model builds in: every transaction
returns and every wait ends (log 20). The count 11 rests on what the model takes as one step (log 1, 2). -/
def Obligations.EveryRequestEndsWithOneResponse : Prop :=
  ∀ s : State, s.host = [] →
    ∃ t : State, Sys2Proof.core.run 11 s = .next t ∧ t.seq = .idle ∧
      (s.seq = .idle → t = s) ∧
      (s.seq ≠ .idle → ∃ r, t.responses = s.responses ++ [r] ∧ s.seq.requestCode = some r.code)

-- THE WHOLE MACHINE

/-- R37: the registers at reset. The parameters have the defaults of R5 and R6. -/
def Obligations.ResetRegisters : Prop :=
  (State.reset.c = ⟨0#16, 0#16, 0#16, 0#16, 0#16, 0#16⟩ ∧ State.reset.w0 = 0#16 ∧ State.reset.w7 = 0#16 ∧
    State.reset.crcStored = 0#4 ∧ State.reset.crcCalc = 0#4 ∧ State.reset.valid = false ∧ State.reset.d1 = 0#24 ∧
    State.reset.d2 = 0#24 ∧ State.reset.pend = .none ∧ State.reset.seq = .idle ∧ State.reset.result = 0#32 ∧
    State.reset.lastStatus = 0#3 ∧ State.reset.lastReq = 0#4) ∧
  State.reset.statusWord = 0#32 ∧
  State.reset.cfg.crcWordSet = .doc7 ∧ State.reset.cfg.crcFinalXor = 0x0#4 ∧ State.reset.cfg.pConvOrder = .d1First

/-- R230, R232, R37: the block reset, from any state, also while BUSY = 1, puts every register of the CCB at its reset
value and emits no response. THE MODEL'S CHOICE: the parameters, the coming answers and moves, and what was observed stay
(log 13), so does the sensor's PROM (log 6), the held copy of CRC_STORED becomes 0 (log 3), and so does the timer
(log 10). -/
def Obligations.BlockResetResetsEveryRegister : Prop :=
  ∀ (s : State) (rest : List HostMove), s.host = .blockReset :: rest →
    ∃ t, step s = .next t ∧
      t.c = ⟨0#16, 0#16, 0#16, 0#16, 0#16, 0#16⟩ ∧ t.w0 = 0#16 ∧ t.w7 = 0#16 ∧ t.crcStored = 0#4 ∧ t.crcCalc = 0#4 ∧
      t.valid = false ∧ t.d1 = 0#24 ∧ t.d2 = 0#24 ∧ t.pend = .none ∧ t.seq = .idle ∧ t.busy = false ∧
      t.timer = 0 ∧ t.crcHeld = 0#4 ∧ t.result = 0#32 ∧ t.lastStatus = 0#3 ∧ t.lastReq = 0#4 ∧
      t.responses = s.responses ∧ t.trace = s.trace ∧ t.statusReads = s.statusReads ∧ t.answers = s.answers ∧
      t.host = rest ∧ t.cfg = s.cfg ∧ t.sensor.prom = s.sensor.prom

/-- R31, R25, R32: the fields of the STATUS word, the reserved bits reading 0 and BUSY being 1 exactly while SEQ ≠ IDLE.
THE MODEL'S CHOICE (log 3): the CRC_STORED field is the register, but while INIT runs it is the copy held at INIT's
acceptance, since R32 has STATUS show the previous request while BUSY = 1. -/
def Obligations.StatusWordFields : Prop :=
  ∀ s : State,
    s.statusWord.extractLsb' 0 3 = s.lastStatus ∧ s.statusWord.getLsbD 3 = s.valid ∧
    (s.statusWord.getLsbD 4 = true ↔ s.seq ≠ .idle) ∧ s.statusWord.extractLsb' 5 3 = 0#3 ∧
    (∀ k, s.seq = .init k → s.statusWord.extractLsb' 8 4 = s.crcHeld) ∧
    ((∀ k, s.seq ≠ .init k) → s.statusWord.extractLsb' 8 4 = s.crcStored) ∧ s.statusWord.extractLsb' 12 4 = s.crcCalc ∧
    s.statusWord.extractLsb' 16 4 = s.lastReq ∧ s.statusWord.extractLsb' 20 12 = 0#12

/-- R32: while BUSY = 1 the STATUS fields other than BUSY still show the previous completed request, except that VALID
reads 0 while INIT runs: a step after which the CCB is busy leaves the fields LAST_STATUS, CRC_STORED, CRC_CALC and
LAST_REQ, and RESULT, as they were before it, the acceptance among those steps. The CRC_STORED field is log 3. -/
def Obligations.StatusShowsThePreviousRequestWhileBusy : Prop :=
  ∀ s t : State, step s = .next t → t.seq ≠ .idle →
    t.statusWord.extractLsb' 0 3 = s.statusWord.extractLsb' 0 3 ∧
    t.statusWord.extractLsb' 8 4 = s.statusWord.extractLsb' 8 4 ∧
    t.statusWord.extractLsb' 12 4 = s.statusWord.extractLsb' 12 4 ∧
    t.statusWord.extractLsb' 16 4 = s.statusWord.extractLsb' 16 4 ∧
    t.result = s.result ∧
    (s.Inv → ∀ k, t.seq = .init k → t.statusWord.getLsbD 3 = false)

/-- R31, R32, R178: the host reads STATUS and RESULT at any time, also while BUSY = 1, and the read changes nothing. -/
def Obligations.StatusReadChangesNothing : Prop :=
  ∀ (s : State) (rest : List HostMove), s.host = .readStatus :: rest →
    step s = .next { s with host := rest, statusReads := s.statusReads ++ [⟨s.statusWord, s.result⟩] }

/-- The invariant of the model holds at reset. -/
def Obligations.ResetMeetsTheInvariant : Prop :=
  State.reset.Inv

/-- R23, R27, R28, R29, R31, R33, R78, R200: from every state that meets it, a step keeps the invariant: VALID = 1 only
over a set that passed validation, PEND naming the conversion to be read, RESULT 0 unless a read ended with OK, the
status legal and fitting the request, PROM_READ 0 and W0 under DATASHEET8 only, the timer holding the wait's count. -/
def Obligations.StepKeepsTheInvariant : Prop :=
  ∀ s t : State, s.Inv → step s = .next t → t.Inv

/-- R29: no reading without a validated set: a step that answers a READ_T or READ_P with OK starts from VALID = 1 and
registers whose checksum matches the stored one. -/
def Obligations.NoReadingWithoutValidation : Prop :=
  ∀ (s t : State) (r : Response), s.Inv → step s = .next t → t.responses = s.responses ++ [r] →
    r.status = .ok → r.code = 0x2#4 ∨ r.code = 0x3#4 →
    s.valid = true ∧ crc4 (crcWordList s.cfg.crcWordSet s.w0 s.c s.w7) s.cfg.crcFinalXor = s.w7.extractLsb' 0 4 ∧
      (r.code = 0x2#4 → r.value = BitVec.ofInt 32 (compT s.c s.d2)) ∧
      (r.code = 0x3#4 → r.value = BitVec.ofInt 32 (compP s.c s.d1 s.d2))

/-- R175, R203: a step emits at most one response; when it does, SEQ is IDLE after it and LAST_STATUS, LAST_REQ and
RESULT hold its fields; when it does not, they keep their values unless the host resets the block. -/
def Obligations.CompletionRecordFollowsTheResponse : Prop :=
  ∀ s t : State, step s = .next t →
    (t.responses = s.responses ∧
      ((∃ rest, s.host = .blockReset :: rest) ∨
        (t.lastStatus = s.lastStatus ∧ t.lastReq = s.lastReq ∧ t.result = s.result))) ∨
    (∃ r, t.responses = s.responses ++ [r] ∧ t.seq = .idle ∧ t.lastStatus = r.status.code ∧ t.lastReq = r.code ∧
      t.result = r.value)

/-- R38: the writers of each register. A step that is no block reset changes C[n] only at INIT's PROM_READ n, W7 and
CRC_STORED only at its PROM_READ_CRC, CRC_CALC only at its validation, W0 only at its PROM_READ 0 under DATASHEET8, VALID
only at INIT's acceptance (to 0) or its validation (to 1), D1 only in READ_P, D2 only in READ_T or READ_P, PEND only in one
of the three requests, and RESULT, LAST_STATUS and LAST_REQ only when a request completes. -/
def Obligations.WritersOfEachRegister : Prop :=
  ∀ s t : State, s.Inv → step s = .next t → (∀ rest, s.host ≠ .blockReset :: rest) →
    (t.c.c1 ≠ s.c.c1 → s.seq = .init .prom1) ∧ (t.c.c2 ≠ s.c.c2 → s.seq = .init .prom2) ∧
    (t.c.c3 ≠ s.c.c3 → s.seq = .init .prom3) ∧ (t.c.c4 ≠ s.c.c4 → s.seq = .init .prom4) ∧
    (t.c.c5 ≠ s.c.c5 → s.seq = .init .prom5) ∧ (t.c.c6 ≠ s.c.c6 → s.seq = .init .prom6) ∧
    (t.w7 ≠ s.w7 ∨ t.crcStored ≠ s.crcStored → s.seq = .init .promCrc) ∧
    (t.crcCalc ≠ s.crcCalc → s.seq = .init .validate) ∧
    (t.w0 ≠ s.w0 → s.seq = .init .prom0 ∧ s.cfg.crcWordSet = .datasheet8) ∧
    (t.valid ≠ s.valid → (s.seq = .init .validate ∧ t.valid = true) ∨
      (s.seq = .idle ∧ t.seq = .init .sensorReset ∧ t.valid = false ∧ ∃ rest, s.host = .request 0x1#4 :: rest)) ∧
    (t.d1 ≠ s.d1 → ∃ k, s.seq = .readP k) ∧
    (t.d2 ≠ s.d2 → (∃ k, s.seq = .readT k) ∨ ∃ k, s.seq = .readP k) ∧
    (t.pend ≠ s.pend → s.seq ≠ .idle) ∧
    (t.result ≠ s.result ∨ t.lastStatus ≠ s.lastStatus ∨ t.lastReq ≠ s.lastReq → t.responses ≠ s.responses)

/-- R5, R35: no step changes a parameter or the sensor's PROM. -/
def Obligations.ParametersAndPromNeverChange : Prop :=
  ∀ s t : State, step s = .next t → t.cfg = s.cfg ∧ t.sensor.prom = s.sensor.prom

/-- R26, R124: no request reads a D1 or D2 of an earlier request: from an idle state, whatever D1 and D2 hold, every run
goes the same way and differs at most in D1 and D2 themselves. -/
def Obligations.EarlierSamplesAreNeverRead : Prop :=
  ∀ (k : Nat) (s : State) (d1 d2 : Sample), s.Inv → s.seq = .idle →
    (∀ t : State, Sys2Proof.core.run k s = .next t →
      ∃ t' : State, Sys2Proof.core.run k (s.withSamples d1 d2) = .next t' ∧
        t'.withSamples 0#24 0#24 = t.withSamples 0#24 0#24) ∧
    (∀ f, Sys2Proof.core.run k s = .fault f → Sys2Proof.core.run k (s.withSamples d1 d2) = .fault f)

/-- R65, U10: another master's use of the bus stops the model while BUSY = 1; while BUSY = 0 it leaves every register of
the CCB as it is (log 12). -/
def Obligations.ForeignMasterOnlyWhileIdle : Prop :=
  ∀ (s : State) (rest : List HostMove), s.host = .otherMaster :: rest →
    (s.seq ≠ .idle → step s = .fault .hostActionOutsideTable) ∧
    (s.seq = .idle → ∃ sensor : Sensor, sensor.prom = s.sensor.prom ∧
      step s = .next { s with host := rest, now := s.now + 1, sensor := sensor })
end

