-- ==== Sys2Proof/Laws/State.lean ====
section
/-! SUPPORT. What each update of the state does to each field: one lemma per field per update. -/

namespace Sys2Proof.Machine

variable (s : State)

@[simp] theorem State.goto_cfg (q : SeqPos) : (s.goto q).cfg = s.cfg := rfl
@[simp] theorem State.goto_c (q : SeqPos) : (s.goto q).c = s.c := rfl
@[simp] theorem State.goto_w0 (q : SeqPos) : (s.goto q).w0 = s.w0 := rfl
@[simp] theorem State.goto_w7 (q : SeqPos) : (s.goto q).w7 = s.w7 := rfl
@[simp] theorem State.goto_crcStored (q : SeqPos) : (s.goto q).crcStored = s.crcStored := rfl
@[simp] theorem State.goto_crcHeld (q : SeqPos) : (s.goto q).crcHeld = s.crcHeld := rfl
@[simp] theorem State.goto_crcCalc (q : SeqPos) : (s.goto q).crcCalc = s.crcCalc := rfl
@[simp] theorem State.goto_valid (q : SeqPos) : (s.goto q).valid = s.valid := rfl
@[simp] theorem State.goto_d1 (q : SeqPos) : (s.goto q).d1 = s.d1 := rfl
@[simp] theorem State.goto_d2 (q : SeqPos) : (s.goto q).d2 = s.d2 := rfl
@[simp] theorem State.goto_pend (q : SeqPos) : (s.goto q).pend = s.pend := rfl
@[simp] theorem State.goto_seq (q : SeqPos) : (s.goto q).seq = q := rfl
@[simp] theorem State.goto_timer (q : SeqPos) : (s.goto q).timer = q.timerLoad s.cfg := rfl
@[simp] theorem State.goto_result (q : SeqPos) : (s.goto q).result = s.result := rfl
@[simp] theorem State.goto_lastStatus (q : SeqPos) : (s.goto q).lastStatus = s.lastStatus := rfl
@[simp] theorem State.goto_lastReq (q : SeqPos) : (s.goto q).lastReq = s.lastReq := rfl
@[simp] theorem State.goto_sensor (q : SeqPos) : (s.goto q).sensor = s.sensor := rfl
@[simp] theorem State.goto_answers (q : SeqPos) : (s.goto q).answers = s.answers := rfl
@[simp] theorem State.goto_now (q : SeqPos) : (s.goto q).now = s.now := rfl
@[simp] theorem State.goto_host (q : SeqPos) : (s.goto q).host = s.host := rfl
@[simp] theorem State.goto_responses (q : SeqPos) : (s.goto q).responses = s.responses := rfl
@[simp] theorem State.goto_trace (q : SeqPos) : (s.goto q).trace = s.trace := rfl
@[simp] theorem State.goto_statusReads (q : SeqPos) : (s.goto q).statusReads = s.statusReads := rfl

@[simp] theorem State.advance_cfg : (s.advance).cfg = s.cfg := rfl
@[simp] theorem State.advance_c : (s.advance).c = s.c := rfl
@[simp] theorem State.advance_w0 : (s.advance).w0 = s.w0 := rfl
@[simp] theorem State.advance_w7 : (s.advance).w7 = s.w7 := rfl
@[simp] theorem State.advance_crcStored : (s.advance).crcStored = s.crcStored := rfl
@[simp] theorem State.advance_crcHeld : (s.advance).crcHeld = s.crcHeld := rfl
@[simp] theorem State.advance_crcCalc : (s.advance).crcCalc = s.crcCalc := rfl
@[simp] theorem State.advance_valid : (s.advance).valid = s.valid := rfl
@[simp] theorem State.advance_d1 : (s.advance).d1 = s.d1 := rfl
@[simp] theorem State.advance_d2 : (s.advance).d2 = s.d2 := rfl
@[simp] theorem State.advance_pend : (s.advance).pend = s.pend := rfl
@[simp] theorem State.advance_seq : (s.advance).seq = s.seq.next s.cfg := rfl
@[simp] theorem State.advance_timer : (s.advance).timer = (s.seq.next s.cfg).timerLoad s.cfg := rfl
@[simp] theorem State.advance_result : (s.advance).result = s.result := rfl
@[simp] theorem State.advance_lastStatus : (s.advance).lastStatus = s.lastStatus := rfl
@[simp] theorem State.advance_lastReq : (s.advance).lastReq = s.lastReq := rfl
@[simp] theorem State.advance_sensor : (s.advance).sensor = s.sensor := rfl
@[simp] theorem State.advance_answers : (s.advance).answers = s.answers := rfl
@[simp] theorem State.advance_now : (s.advance).now = s.now := rfl
@[simp] theorem State.advance_host : (s.advance).host = s.host := rfl
@[simp] theorem State.advance_responses : (s.advance).responses = s.responses := rfl
@[simp] theorem State.advance_trace : (s.advance).trace = s.trace := rfl
@[simp] theorem State.advance_statusReads : (s.advance).statusReads = s.statusReads := rfl

@[simp] theorem State.complete_cfg (code : Nibble) (st : Status) (v : Int) : (s.complete code st v).cfg = s.cfg := rfl
@[simp] theorem State.complete_c (code : Nibble) (st : Status) (v : Int) : (s.complete code st v).c = s.c := rfl
@[simp] theorem State.complete_w0 (code : Nibble) (st : Status) (v : Int) : (s.complete code st v).w0 = s.w0 := rfl
@[simp] theorem State.complete_w7 (code : Nibble) (st : Status) (v : Int) : (s.complete code st v).w7 = s.w7 := rfl
@[simp] theorem State.complete_crcStored (code : Nibble) (st : Status) (v : Int) : (s.complete code st v).crcStored = s.crcStored := rfl
@[simp] theorem State.complete_crcHeld (code : Nibble) (st : Status) (v : Int) : (s.complete code st v).crcHeld = s.crcHeld := rfl
@[simp] theorem State.complete_crcCalc (code : Nibble) (st : Status) (v : Int) : (s.complete code st v).crcCalc = s.crcCalc := rfl
@[simp] theorem State.complete_valid (code : Nibble) (st : Status) (v : Int) : (s.complete code st v).valid = s.valid := rfl
@[simp] theorem State.complete_d1 (code : Nibble) (st : Status) (v : Int) : (s.complete code st v).d1 = s.d1 := rfl
@[simp] theorem State.complete_d2 (code : Nibble) (st : Status) (v : Int) : (s.complete code st v).d2 = s.d2 := rfl
@[simp] theorem State.complete_pend (code : Nibble) (st : Status) (v : Int) : (s.complete code st v).pend = s.pend := rfl
@[simp] theorem State.complete_seq (code : Nibble) (st : Status) (v : Int) : (s.complete code st v).seq = .idle := rfl
@[simp] theorem State.complete_timer (code : Nibble) (st : Status) (v : Int) : (s.complete code st v).timer = 0 := rfl
@[simp] theorem State.complete_result (code : Nibble) (st : Status) (v : Int) : (s.complete code st v).result = BitVec.ofInt 32 v := rfl
@[simp] theorem State.complete_lastStatus (code : Nibble) (st : Status) (v : Int) : (s.complete code st v).lastStatus = st.code := rfl
@[simp] theorem State.complete_lastReq (code : Nibble) (st : Status) (v : Int) : (s.complete code st v).lastReq = code := rfl
@[simp] theorem State.complete_sensor (code : Nibble) (st : Status) (v : Int) : (s.complete code st v).sensor = s.sensor := rfl
@[simp] theorem State.complete_answers (code : Nibble) (st : Status) (v : Int) : (s.complete code st v).answers = s.answers := rfl
@[simp] theorem State.complete_now (code : Nibble) (st : Status) (v : Int) : (s.complete code st v).now = s.now := rfl
@[simp] theorem State.complete_host (code : Nibble) (st : Status) (v : Int) : (s.complete code st v).host = s.host := rfl
@[simp] theorem State.complete_responses (code : Nibble) (st : Status) (v : Int) : (s.complete code st v).responses = s.responses ++ [⟨code, st, BitVec.ofInt 32 v⟩] := rfl
@[simp] theorem State.complete_trace (code : Nibble) (st : Status) (v : Int) : (s.complete code st v).trace = s.trace := rfl
@[simp] theorem State.complete_statusReads (code : Nibble) (st : Status) (v : Int) : (s.complete code st v).statusReads = s.statusReads := rfl

@[simp] theorem State.disturbSensor_cfg : (s.disturbSensor).cfg = s.cfg := rfl
@[simp] theorem State.disturbSensor_c : (s.disturbSensor).c = s.c := rfl
@[simp] theorem State.disturbSensor_w0 : (s.disturbSensor).w0 = s.w0 := rfl
@[simp] theorem State.disturbSensor_w7 : (s.disturbSensor).w7 = s.w7 := rfl
@[simp] theorem State.disturbSensor_crcStored : (s.disturbSensor).crcStored = s.crcStored := rfl
@[simp] theorem State.disturbSensor_crcHeld : (s.disturbSensor).crcHeld = s.crcHeld := rfl
@[simp] theorem State.disturbSensor_crcCalc : (s.disturbSensor).crcCalc = s.crcCalc := rfl
@[simp] theorem State.disturbSensor_valid : (s.disturbSensor).valid = s.valid := rfl
@[simp] theorem State.disturbSensor_d1 : (s.disturbSensor).d1 = s.d1 := rfl
@[simp] theorem State.disturbSensor_d2 : (s.disturbSensor).d2 = s.d2 := rfl
@[simp] theorem State.disturbSensor_pend : (s.disturbSensor).pend = s.pend := rfl
@[simp] theorem State.disturbSensor_seq : (s.disturbSensor).seq = s.seq := rfl
@[simp] theorem State.disturbSensor_timer : (s.disturbSensor).timer = s.timer := rfl
@[simp] theorem State.disturbSensor_result : (s.disturbSensor).result = s.result := rfl
@[simp] theorem State.disturbSensor_lastStatus : (s.disturbSensor).lastStatus = s.lastStatus := rfl
@[simp] theorem State.disturbSensor_lastReq : (s.disturbSensor).lastReq = s.lastReq := rfl
@[simp] theorem State.disturbSensor_sensor : (s.disturbSensor).sensor = ⟨s.sensor.prom, Config.sensorResult s.sensor s.now, Config.sensorConversion s.sensor s.now⟩ := rfl
@[simp] theorem State.disturbSensor_answers : (s.disturbSensor).answers = s.answers := rfl
@[simp] theorem State.disturbSensor_now : (s.disturbSensor).now = s.now := rfl
@[simp] theorem State.disturbSensor_host : (s.disturbSensor).host = s.host := rfl
@[simp] theorem State.disturbSensor_responses : (s.disturbSensor).responses = s.responses := rfl
@[simp] theorem State.disturbSensor_trace : (s.disturbSensor).trace = s.trace := rfl
@[simp] theorem State.disturbSensor_statusReads : (s.disturbSensor).statusReads = s.statusReads := rfl

@[simp] theorem State.startConversion_cfg (ch : Channel) : (s.startConversion ch).cfg = s.cfg := rfl
@[simp] theorem State.startConversion_c (ch : Channel) : (s.startConversion ch).c = s.c := rfl
@[simp] theorem State.startConversion_w0 (ch : Channel) : (s.startConversion ch).w0 = s.w0 := rfl
@[simp] theorem State.startConversion_w7 (ch : Channel) : (s.startConversion ch).w7 = s.w7 := rfl
@[simp] theorem State.startConversion_crcStored (ch : Channel) : (s.startConversion ch).crcStored = s.crcStored := rfl
@[simp] theorem State.startConversion_crcHeld (ch : Channel) : (s.startConversion ch).crcHeld = s.crcHeld := rfl
@[simp] theorem State.startConversion_crcCalc (ch : Channel) : (s.startConversion ch).crcCalc = s.crcCalc := rfl
@[simp] theorem State.startConversion_valid (ch : Channel) : (s.startConversion ch).valid = s.valid := rfl
@[simp] theorem State.startConversion_d1 (ch : Channel) : (s.startConversion ch).d1 = s.d1 := rfl
@[simp] theorem State.startConversion_d2 (ch : Channel) : (s.startConversion ch).d2 = s.d2 := rfl
@[simp] theorem State.startConversion_pend (ch : Channel) : (s.startConversion ch).pend = s.pend := rfl
@[simp] theorem State.startConversion_seq (ch : Channel) : (s.startConversion ch).seq = s.seq := rfl
@[simp] theorem State.startConversion_timer (ch : Channel) : (s.startConversion ch).timer = s.timer := rfl
@[simp] theorem State.startConversion_result (ch : Channel) : (s.startConversion ch).result = s.result := rfl
@[simp] theorem State.startConversion_lastStatus (ch : Channel) : (s.startConversion ch).lastStatus = s.lastStatus := rfl
@[simp] theorem State.startConversion_lastReq (ch : Channel) : (s.startConversion ch).lastReq = s.lastReq := rfl
@[simp] theorem State.startConversion_sensor (ch : Channel) : (s.startConversion ch).sensor = ⟨s.sensor.prom, Config.sensorResult s.sensor s.now, some ⟨ch, s.now⟩⟩ := rfl
@[simp] theorem State.startConversion_answers (ch : Channel) : (s.startConversion ch).answers = s.answers := rfl
@[simp] theorem State.startConversion_now (ch : Channel) : (s.startConversion ch).now = s.now := rfl
@[simp] theorem State.startConversion_host (ch : Channel) : (s.startConversion ch).host = s.host := rfl
@[simp] theorem State.startConversion_responses (ch : Channel) : (s.startConversion ch).responses = s.responses := rfl
@[simp] theorem State.startConversion_trace (ch : Channel) : (s.startConversion ch).trace = s.trace := rfl
@[simp] theorem State.startConversion_statusReads (ch : Channel) : (s.startConversion ch).statusReads = s.statusReads := rfl

@[simp] theorem State.record_cfg (e : BusEvent) : (s.record e).cfg = s.cfg := rfl
@[simp] theorem State.record_c (e : BusEvent) : (s.record e).c = s.c := rfl
@[simp] theorem State.record_w0 (e : BusEvent) : (s.record e).w0 = s.w0 := rfl
@[simp] theorem State.record_w7 (e : BusEvent) : (s.record e).w7 = s.w7 := rfl
@[simp] theorem State.record_crcStored (e : BusEvent) : (s.record e).crcStored = s.crcStored := rfl
@[simp] theorem State.record_crcHeld (e : BusEvent) : (s.record e).crcHeld = s.crcHeld := rfl
@[simp] theorem State.record_crcCalc (e : BusEvent) : (s.record e).crcCalc = s.crcCalc := rfl
@[simp] theorem State.record_valid (e : BusEvent) : (s.record e).valid = s.valid := rfl
@[simp] theorem State.record_d1 (e : BusEvent) : (s.record e).d1 = s.d1 := rfl
@[simp] theorem State.record_d2 (e : BusEvent) : (s.record e).d2 = s.d2 := rfl
@[simp] theorem State.record_pend (e : BusEvent) : (s.record e).pend = s.pend := rfl
@[simp] theorem State.record_seq (e : BusEvent) : (s.record e).seq = s.seq := rfl
@[simp] theorem State.record_timer (e : BusEvent) : (s.record e).timer = s.timer := rfl
@[simp] theorem State.record_result (e : BusEvent) : (s.record e).result = s.result := rfl
@[simp] theorem State.record_lastStatus (e : BusEvent) : (s.record e).lastStatus = s.lastStatus := rfl
@[simp] theorem State.record_lastReq (e : BusEvent) : (s.record e).lastReq = s.lastReq := rfl
@[simp] theorem State.record_sensor (e : BusEvent) : (s.record e).sensor = s.sensor := rfl
@[simp] theorem State.record_answers (e : BusEvent) : (s.record e).answers = s.answers := rfl
@[simp] theorem State.record_now (e : BusEvent) : (s.record e).now = s.now + 1 := rfl
@[simp] theorem State.record_host (e : BusEvent) : (s.record e).host = s.host := rfl
@[simp] theorem State.record_responses (e : BusEvent) : (s.record e).responses = s.responses := rfl
@[simp] theorem State.record_trace (e : BusEvent) : (s.record e).trace = s.trace ++ [e] := rfl
@[simp] theorem State.record_statusReads (e : BusEvent) : (s.record e).statusReads = s.statusReads := rfl

@[simp] theorem State.transacted_cfg (e : BusEvent) : (s.transacted e).cfg = s.cfg := rfl
@[simp] theorem State.transacted_c (e : BusEvent) : (s.transacted e).c = s.c := rfl
@[simp] theorem State.transacted_w0 (e : BusEvent) : (s.transacted e).w0 = s.w0 := rfl
@[simp] theorem State.transacted_w7 (e : BusEvent) : (s.transacted e).w7 = s.w7 := rfl
@[simp] theorem State.transacted_crcStored (e : BusEvent) : (s.transacted e).crcStored = s.crcStored := rfl
@[simp] theorem State.transacted_crcHeld (e : BusEvent) : (s.transacted e).crcHeld = s.crcHeld := rfl
@[simp] theorem State.transacted_crcCalc (e : BusEvent) : (s.transacted e).crcCalc = s.crcCalc := rfl
@[simp] theorem State.transacted_valid (e : BusEvent) : (s.transacted e).valid = s.valid := rfl
@[simp] theorem State.transacted_d1 (e : BusEvent) : (s.transacted e).d1 = s.d1 := rfl
@[simp] theorem State.transacted_d2 (e : BusEvent) : (s.transacted e).d2 = s.d2 := rfl
@[simp] theorem State.transacted_pend (e : BusEvent) : (s.transacted e).pend = s.pend := rfl
@[simp] theorem State.transacted_seq (e : BusEvent) : (s.transacted e).seq = s.seq := rfl
@[simp] theorem State.transacted_timer (e : BusEvent) : (s.transacted e).timer = s.timer := rfl
@[simp] theorem State.transacted_result (e : BusEvent) : (s.transacted e).result = s.result := rfl
@[simp] theorem State.transacted_lastStatus (e : BusEvent) : (s.transacted e).lastStatus = s.lastStatus := rfl
@[simp] theorem State.transacted_lastReq (e : BusEvent) : (s.transacted e).lastReq = s.lastReq := rfl
@[simp] theorem State.transacted_sensor (e : BusEvent) : (s.transacted e).sensor = s.sensor := rfl
@[simp] theorem State.transacted_answers (e : BusEvent) : (s.transacted e).answers = s.answers.tail := rfl
@[simp] theorem State.transacted_now (e : BusEvent) : (s.transacted e).now = s.now + 1 := rfl
@[simp] theorem State.transacted_host (e : BusEvent) : (s.transacted e).host = s.host := rfl
@[simp] theorem State.transacted_responses (e : BusEvent) : (s.transacted e).responses = s.responses := rfl
@[simp] theorem State.transacted_trace (e : BusEvent) : (s.transacted e).trace = s.trace ++ [e] := rfl
@[simp] theorem State.transacted_statusReads (e : BusEvent) : (s.transacted e).statusReads = s.statusReads := rfl

@[simp] theorem State.readStatus_cfg : (s.readStatus).cfg = s.cfg := rfl
@[simp] theorem State.readStatus_c : (s.readStatus).c = s.c := rfl
@[simp] theorem State.readStatus_w0 : (s.readStatus).w0 = s.w0 := rfl
@[simp] theorem State.readStatus_w7 : (s.readStatus).w7 = s.w7 := rfl
@[simp] theorem State.readStatus_crcStored : (s.readStatus).crcStored = s.crcStored := rfl
@[simp] theorem State.readStatus_crcHeld : (s.readStatus).crcHeld = s.crcHeld := rfl
@[simp] theorem State.readStatus_crcCalc : (s.readStatus).crcCalc = s.crcCalc := rfl
@[simp] theorem State.readStatus_valid : (s.readStatus).valid = s.valid := rfl
@[simp] theorem State.readStatus_d1 : (s.readStatus).d1 = s.d1 := rfl
@[simp] theorem State.readStatus_d2 : (s.readStatus).d2 = s.d2 := rfl
@[simp] theorem State.readStatus_pend : (s.readStatus).pend = s.pend := rfl
@[simp] theorem State.readStatus_seq : (s.readStatus).seq = s.seq := rfl
@[simp] theorem State.readStatus_timer : (s.readStatus).timer = s.timer := rfl
@[simp] theorem State.readStatus_result : (s.readStatus).result = s.result := rfl
@[simp] theorem State.readStatus_lastStatus : (s.readStatus).lastStatus = s.lastStatus := rfl
@[simp] theorem State.readStatus_lastReq : (s.readStatus).lastReq = s.lastReq := rfl
@[simp] theorem State.readStatus_sensor : (s.readStatus).sensor = s.sensor := rfl
@[simp] theorem State.readStatus_answers : (s.readStatus).answers = s.answers := rfl
@[simp] theorem State.readStatus_now : (s.readStatus).now = s.now := rfl
@[simp] theorem State.readStatus_host : (s.readStatus).host = s.host := rfl
@[simp] theorem State.readStatus_responses : (s.readStatus).responses = s.responses := rfl
@[simp] theorem State.readStatus_trace : (s.readStatus).trace = s.trace := rfl
@[simp] theorem State.readStatus_statusReads : (s.readStatus).statusReads = s.statusReads ++ [⟨s.statusWord, s.result⟩] := rfl

@[simp] theorem State.otherMasterUse_cfg : (s.otherMasterUse).cfg = s.cfg := rfl
@[simp] theorem State.otherMasterUse_c : (s.otherMasterUse).c = s.c := rfl
@[simp] theorem State.otherMasterUse_w0 : (s.otherMasterUse).w0 = s.w0 := rfl
@[simp] theorem State.otherMasterUse_w7 : (s.otherMasterUse).w7 = s.w7 := rfl
@[simp] theorem State.otherMasterUse_crcStored : (s.otherMasterUse).crcStored = s.crcStored := rfl
@[simp] theorem State.otherMasterUse_crcHeld : (s.otherMasterUse).crcHeld = s.crcHeld := rfl
@[simp] theorem State.otherMasterUse_crcCalc : (s.otherMasterUse).crcCalc = s.crcCalc := rfl
@[simp] theorem State.otherMasterUse_valid : (s.otherMasterUse).valid = s.valid := rfl
@[simp] theorem State.otherMasterUse_d1 : (s.otherMasterUse).d1 = s.d1 := rfl
@[simp] theorem State.otherMasterUse_d2 : (s.otherMasterUse).d2 = s.d2 := rfl
@[simp] theorem State.otherMasterUse_pend : (s.otherMasterUse).pend = s.pend := rfl
@[simp] theorem State.otherMasterUse_seq : (s.otherMasterUse).seq = s.seq := rfl
@[simp] theorem State.otherMasterUse_timer : (s.otherMasterUse).timer = s.timer := rfl
@[simp] theorem State.otherMasterUse_result : (s.otherMasterUse).result = s.result := rfl
@[simp] theorem State.otherMasterUse_lastStatus : (s.otherMasterUse).lastStatus = s.lastStatus := rfl
@[simp] theorem State.otherMasterUse_lastReq : (s.otherMasterUse).lastReq = s.lastReq := rfl
@[simp] theorem State.otherMasterUse_sensor : (s.otherMasterUse).sensor = s.disturbSensor.sensor := rfl
@[simp] theorem State.otherMasterUse_answers : (s.otherMasterUse).answers = s.answers := rfl
@[simp] theorem State.otherMasterUse_now : (s.otherMasterUse).now = s.now + 1 := rfl
@[simp] theorem State.otherMasterUse_host : (s.otherMasterUse).host = s.host := rfl
@[simp] theorem State.otherMasterUse_responses : (s.otherMasterUse).responses = s.responses := rfl
@[simp] theorem State.otherMasterUse_trace : (s.otherMasterUse).trace = s.trace := rfl
@[simp] theorem State.otherMasterUse_statusReads : (s.otherMasterUse).statusReads = s.statusReads := rfl

@[simp] theorem State.blockReset_cfg : (s.blockReset).cfg = s.cfg := rfl
@[simp] theorem State.blockReset_c : (s.blockReset).c = Calib.zero := rfl
@[simp] theorem State.blockReset_w0 : (s.blockReset).w0 = 0#16 := rfl
@[simp] theorem State.blockReset_w7 : (s.blockReset).w7 = 0#16 := rfl
@[simp] theorem State.blockReset_crcStored : (s.blockReset).crcStored = 0#4 := rfl
@[simp] theorem State.blockReset_crcHeld : (s.blockReset).crcHeld = 0#4 := rfl
@[simp] theorem State.blockReset_crcCalc : (s.blockReset).crcCalc = 0#4 := rfl
@[simp] theorem State.blockReset_valid : (s.blockReset).valid = false := rfl
@[simp] theorem State.blockReset_d1 : (s.blockReset).d1 = 0#24 := rfl
@[simp] theorem State.blockReset_d2 : (s.blockReset).d2 = 0#24 := rfl
@[simp] theorem State.blockReset_pend : (s.blockReset).pend = .none := rfl
@[simp] theorem State.blockReset_seq : (s.blockReset).seq = .idle := rfl
@[simp] theorem State.blockReset_timer : (s.blockReset).timer = 0 := rfl
@[simp] theorem State.blockReset_result : (s.blockReset).result = 0#32 := rfl
@[simp] theorem State.blockReset_lastStatus : (s.blockReset).lastStatus = 0#3 := rfl
@[simp] theorem State.blockReset_lastReq : (s.blockReset).lastReq = 0#4 := rfl
@[simp] theorem State.blockReset_sensor : (s.blockReset).sensor = s.disturbSensor.sensor := rfl
@[simp] theorem State.blockReset_answers : (s.blockReset).answers = s.answers := rfl
@[simp] theorem State.blockReset_now : (s.blockReset).now = s.now + 1 := rfl
@[simp] theorem State.blockReset_host : (s.blockReset).host = s.host := rfl
@[simp] theorem State.blockReset_responses : (s.blockReset).responses = s.responses := rfl
@[simp] theorem State.blockReset_trace : (s.blockReset).trace = s.trace := rfl
@[simp] theorem State.blockReset_statusReads : (s.blockReset).statusReads = s.statusReads := rfl

theorem State.shownCrcStored_of_init {s : State} {k : InitStep} (h : s.seq = .init k) : s.shownCrcStored = s.crcHeld := by
  simp [State.shownCrcStored, h]

theorem State.shownCrcStored_of_not_init {s : State} (h : ∀ k, s.seq ≠ .init k) : s.shownCrcStored = s.crcStored := by
  unfold State.shownCrcStored
  split
  · exact absurd ‹_› (h _)
  all_goals rfl

end Sys2Proof.Machine
end

