-- ==== Sys2Proof/Laws/Ops.lean ====
section
/-! SUPPORT. What each shared operation can do, said once: completion, the transactions, acceptance, the storing of a
sample, and the calibration registers. -/

namespace Sys2Proof.Machine

theorem State.finish_of_running {s : State} {code : Nibble} (st : Status) (v : Int)
    (h : s.seq.requestCode = some code) : s.finish st v = s.complete code st v := by
  simp [State.finish, h]

theorem State.finish_of_idle {s : State} (st : Status) (v : Int) (h : s.seq = .idle) : s.finish st v = s := by
  simp [State.finish, h, SeqPos.requestCode]

/-- Ending a request writes the completion record of the request that runs, or nothing when none runs. -/
theorem State.finish_cases (s : State) (st : Status) (v : Int) :
    (s.seq = .idle ∧ s.finish st v = s) ∨
    (∃ code, s.seq.requestCode = some code ∧ s.finish st v = s.complete code st v) := by
  cases h : s.seq with
  | idle => exact .inl ⟨rfl, s.finish_of_idle st v h⟩
  | init k => exact .inr ⟨0x1#4, rfl, finish_of_running st v (by rw [h]; rfl)⟩
  | readT k => exact .inr ⟨0x2#4, rfl, finish_of_running st v (by rw [h]; rfl)⟩
  | readP k => exact .inr ⟨0x3#4, rfl, finish_of_running st v (by rw [h]; rfl)⟩

theorem State.memWrite_of_error {s : State} {cmd : Byte} (f : State → State)
    (h : s.busAnswer cmd = .transportError) :
    s.memWrite cmd f =
      ((s.transacted (.write s.cfg.devAddr cmd false)).disturbSensor).raise .transportError := by
  simp [State.memWrite, h]

theorem State.memWrite_of_ok {s : State} {cmd b0 b1 b2 : Byte} (f : State → State)
    (h : s.busAnswer cmd = .ok b0 b1 b2) :
    s.memWrite cmd f = (f (s.transacted (.write s.cfg.devAddr cmd true))).advance := by
  simp [State.memWrite, h]

theorem State.memRead2_of_error {s : State} {cmd : Byte} (f : Byte → Byte → State → State)
    (h : s.busAnswer cmd = .transportError) :
    s.memRead2 cmd f = (s.transacted (.read s.cfg.devAddr cmd 2 none)).raise .transportError := by
  simp [State.memRead2, h]

theorem State.memRead2_of_ok {s : State} {cmd b0 b1 b2 : Byte} (f : Byte → Byte → State → State)
    (h : s.busAnswer cmd = .ok b0 b1 b2) :
    s.memRead2 cmd f = (f b0 b1 (s.transacted (.read s.cfg.devAddr cmd 2 (some [b0, b1])))).advance := by
  simp [State.memRead2, h]

theorem State.memRead3_of_error {s : State} {cmd : Byte} (f : Byte → Byte → Byte → State → State)
    (h : s.busAnswer cmd = .transportError) :
    s.memRead3 cmd f =
      ((s.transacted (.read s.cfg.devAddr cmd 3 none)).disturbSensor).raise .transportError := by
  simp [State.memRead3, h]

theorem State.memRead3_of_ok {s : State} {cmd b0 b1 b2 : Byte} (f : Byte → Byte → Byte → State → State)
    (h : s.busAnswer cmd = .ok b0 b1 b2) :
    s.memRead3 cmd f =
      (f b0 b1 b2 ((s.transacted (.read s.cfg.devAddr cmd 3 (some [b0, b1, b2]))).disturbSensor)).advance := by
  simp [State.memRead3, h]

/-- A transaction either fails or returns bytes. -/
theorem State.busAnswer_cases (s : State) (cmd : Byte) :
    s.busAnswer cmd = .transportError ∨ ∃ b0 b1 b2, s.busAnswer cmd = .ok b0 b1 b2 := by
  cases h : s.busAnswer cmd with
  | transportError => exact .inl rfl
  | ok b0 b1 b2 => exact .inr ⟨b0, b1, b2, rfl⟩

theorem State.busAnswer_of_scripted {s : State} {a : BusAnswer} {rest : List BusAnswer} (cmd : Byte)
    (h : s.answers = a :: rest) : s.busAnswer cmd = a := by
  simp [State.busAnswer, h]

theorem State.accept_of_idle {s : State} (f : State → State) (h : s.seq = .idle) : s.accept f = f s := by
  simp [State.accept, h]

theorem State.accept_of_busy {s : State} (f : State → State) (h : s.seq ≠ .idle) : s.accept f = s := by
  simp [State.accept, h]

/-- A sample goes to D1, to D2 or nowhere, and PEND becomes NONE. -/
theorem State.storeSample_cases (s : State) (v : Sample) :
    (s.pend = .pressure ∧ s.storeSample v = { s with d1 := v, pend := .none }) ∨
    (s.pend = .temperature ∧ s.storeSample v = { s with d2 := v, pend := .none }) ∨
    (s.pend = .none ∧ s.storeSample v = { s with pend := .none }) := by
  cases h : s.pend <;> simp [State.storeSample, h]

@[simp] theorem Calib.get_set_self (c : Calib) (v : Word) (n : CalIndex) : (c.set v n).get n = v := by
  cases n <;> rfl

theorem Calib.get_set_of_ne (c : Calib) (v : Word) {n m : CalIndex} (h : m ≠ n) : (c.set v n).get m = c.get m := by
  cases n <;> cases m <;> first | rfl | exact absurd rfl h

/-- The validation ends the request with OK and VALID = 1, or with CAL_ERROR. -/
theorem validateStep_cases (s : State) :
    (s.imageCrc = s.crcStored ∧
      validateStep s = { s with crcCalc := s.imageCrc, valid := true }.finish .ok 0) ∨
    (s.imageCrc ≠ s.crcStored ∧
      validateStep s = { s with crcCalc := s.imageCrc }.raise .calError) := by
  by_cases h : s.imageCrc = s.crcStored
  · exact .inl ⟨h, by simp [validateStep, h]⟩
  · exact .inr ⟨h, by simp [validateStep, h]⟩

/-- What no operation of the sequencer touches: the parameters, the host's moves and what the host has read. -/
def State.Aside (s t : State) : Prop :=
  t.cfg = s.cfg ∧ t.host = s.host ∧ t.statusReads = s.statusReads

theorem State.finish_aside (s : State) (st : Status) (v : Int) : s.Aside (s.finish st v) := by
  rcases s.finish_cases st v with ⟨-, h⟩ | ⟨code, -, h⟩ <;> rw [h] <;> exact ⟨rfl, rfl, rfl⟩

theorem State.memWrite_aside {f : State → State} (hf : ∀ s : State, s.Aside (f s)) (cmd : Byte) (s : State) :
    s.Aside (s.memWrite cmd f) := by
  rcases s.busAnswer_cases cmd with h | ⟨b0, b1, b2, h⟩
  · rw [memWrite_of_error _ h]; exact finish_aside _ _ _
  · rw [memWrite_of_ok _ h]; exact hf _

theorem State.memRead2_aside {f : Byte → Byte → State → State} (hf : ∀ b0 b1 (s : State), s.Aside (f b0 b1 s))
    (cmd : Byte) (s : State) : s.Aside (s.memRead2 cmd f) := by
  rcases s.busAnswer_cases cmd with h | ⟨b0, b1, b2, h⟩
  · rw [memRead2_of_error _ h]; exact finish_aside _ _ _
  · rw [memRead2_of_ok _ h]; exact hf _ _ _

theorem State.memRead3_aside {f : Byte → Byte → Byte → State → State}
    (hf : ∀ b0 b1 b2 (s : State), s.Aside (f b0 b1 b2 s)) (cmd : Byte) (s : State) :
    s.Aside (s.memRead3 cmd f) := by
  rcases s.busAnswer_cases cmd with h | ⟨b0, b1, b2, h⟩
  · rw [memRead3_of_error _ h]; exact finish_aside _ _ _
  · rw [memRead3_of_ok _ h]; exact hf _ _ _ _

theorem State.convert_aside (ch : Channel) (s : State) : s.Aside (s.convert ch) := by
  refine memWrite_aside ?_ _ s
  exact fun _ => ⟨rfl, rfl, rfl⟩

theorem State.readSample_aside (s : State) : s.Aside s.readSample := by
  refine memRead3_aside (fun b0 b1 b2 s => ?_) _ s
  rcases s.storeSample_cases (sampleOfBytes b0 b1 b2) with ⟨-, h⟩ | ⟨-, h⟩ | ⟨-, h⟩ <;> rw [h] <;> exact ⟨rfl, rfl, rfl⟩

theorem promReadInto_aside (n : CalIndex) (s : State) : s.Aside (promReadInto n s) := by
  refine State.memRead2_aside ?_ _ s
  exact fun _ _ _ => ⟨rfl, rfl, rfl⟩

theorem validateStep_aside (s : State) : s.Aside (validateStep s) := by
  rcases validateStep_cases s with ⟨-, h⟩ | ⟨-, h⟩ <;> rw [h] <;> exact State.finish_aside _ _ _

/-- The command byte of each calibration read (R75, R76). -/
theorem promCommand_values :
    promCommand 0#3 = 0xA0#8 ∧ promCommand 1#3 = 0xA2#8 ∧ promCommand 2#3 = 0xA4#8 ∧ promCommand 3#3 = 0xA6#8 ∧
    promCommand 4#3 = 0xA8#8 ∧ promCommand 5#3 = 0xAA#8 ∧ promCommand 6#3 = 0xAC#8 ∧ promCommand 7#3 = 0xAE#8 := by
  decide

end Sys2Proof.Machine
end

