-- ==== Sys2Proof/Laws/PerInstr.lean ====
section
/-! SUPPORT. Statements about each instruction as syntax. Family TableRow: the word of a well-formed instruction has the
fixed bits of its own row of the opcode table and of no other row. -/

namespace Sys2Proof.Laws.TableRow

/-- Among the rows of the opcode table, the encoded word fits exactly the instruction's own. -/
def Statement (i : Instr) : Prop :=
  i.wf = true → rowsOf (encode i) = [i.mnemonic]

theorem init : Statement .init := by unfold Statement; decide
theorem readT : Statement .readT := by unfold Statement; decide
theorem readP : Statement .readP := by unfold Statement; decide
theorem reserved0 : Statement .reserved0 := by unfold Statement; decide
theorem reserved4to7 (code : Nibble) : Statement (.reserved4to7 code) := by
  unfold Statement; revert code; decide
theorem reserved8toF (code : Nibble) : Statement (.reserved8toF code) := by
  unfold Statement; revert code; decide
theorem sensorReset : Statement .sensorReset := by unfold Statement; decide
theorem promRead1 : Statement .promRead1 := by unfold Statement; decide
theorem promRead2 : Statement .promRead2 := by unfold Statement; decide
theorem promRead3 : Statement .promRead3 := by unfold Statement; decide
theorem promRead4 : Statement .promRead4 := by unfold Statement; decide
theorem promRead5 : Statement .promRead5 := by unfold Statement; decide
theorem promRead6 : Statement .promRead6 := by unfold Statement; decide
theorem promReadCrc : Statement .promReadCrc := by unfold Statement; decide
theorem convD1 : Statement .convD1 := by unfold Statement; decide
theorem convD2 : Statement .convD2 := by unfold Statement; decide
theorem adcRead : Statement .adcRead := by unfold Statement; decide
theorem promRead0 : Statement .promRead0 := by unfold Statement; decide

end Sys2Proof.Laws.TableRow
end

