-- ==== Sys2Proof/Laws/Step.lean ====
section
/-! SUPPORT. What a step can do, said once: the sequencer at every position of SEQ, the step by the host's next move,
and a run one step at a time. -/

namespace Sys2Proof.Machine

/-- What the CCB's own step does, by the position of SEQ: the sequences of R171 to R173 with every decoded command. -/
def sequencerState (s : State) : State :=
  match s.seq with
  | .idle => s
  | .init .sensorReset => s.memWrite 0x1E#8 (fun s => { s.disturbSensor with pend := .none })
  | .init .resetWait => waitStep tResetWait s
  | .init .prom0 => s.memRead2 0xA0#8 (fun b0 b1 s => { s with w0 := wordOfBytes b0 b1 })
  | .init .prom1 => promReadInto .n1 s
  | .init .prom2 => promReadInto .n2 s
  | .init .prom3 => promReadInto .n3 s
  | .init .prom4 => promReadInto .n4 s
  | .init .prom5 => promReadInto .n5 s
  | .init .prom6 => promReadInto .n6 s
  | .init .promCrc =>
    s.memRead2 0xAE#8 (fun b0 b1 s => { s with w7 := wordOfBytes b0 b1, crcStored := checksumOfByte b1 })
  | .init .validate => validateStep s
  | .readT .conv => s.convert .temperature
  | .readT .convWait => waitStep tConvWait s
  | .readT .adc => s.readSample
  | .readT .compute => computeTStep s
  | .readP .conv1 => s.convert (firstChannel s.cfg.pConvOrder)
  | .readP .wait1 => waitStep tConvWait s
  | .readP .adc1 => s.readSample
  | .readP .conv2 => s.convert (secondChannel s.cfg.pConvOrder)
  | .readP .wait2 => waitStep tConvWait s
  | .readP .adc2 => s.readSample
  | .readP .compute => computePStep s

/-- The sequencer always moves on: no position of SEQ stops the CCB (R79). -/
theorem runSequencer_eq (s : State) : runSequencer s = .next (sequencerState s) := by
  unfold runSequencer sequencerState
  cases h : s.seq with
  | idle => rfl
  | init k => cases k <;> rfl
  | readT k => cases k <;> rfl
  | readP k => cases k <;> cases ho : s.cfg.pConvOrder <;> simp [SeqPos.work, ReadPStep.work, ho] <;> rfl

/-- The step, by the host's next move: the five things it can do. -/
theorem step_cases (s : State) :
    (s.host = [] ∧ step s = .next (sequencerState s)) ∨
    (∃ rest, s.host = .quiet :: rest ∧ step s = .next (sequencerState { s with host := rest })) ∨
    (∃ code rest, s.host = .request code :: rest ∧ s.seq = .idle ∧
      step s = exec (decodeRequest code) { s with host := rest }) ∨
    (∃ code rest, s.host = .request code :: rest ∧ s.seq ≠ .idle ∧ step s = .next (sequencerState s)) ∨
    (∃ rest, s.host = .blockReset :: rest ∧ step s = .next { s with host := rest }.blockReset) ∨
    (∃ rest, s.host = .readStatus :: rest ∧ step s = .next { s with host := rest }.readStatus) ∨
    (∃ rest, s.host = .otherMaster :: rest ∧ s.seq = .idle ∧
      step s = .next { s with host := rest }.otherMasterUse) ∨
    (∃ rest, s.host = .otherMaster :: rest ∧ s.seq ≠ .idle ∧ step s = .fault .hostActionOutsideTable) := by
  unfold step stepWithHost
  cases h : s.host with
  | nil => simp [runSequencer_eq]
  | cons m rest =>
    cases m with
    | request code =>
      by_cases hs : s.seq = .idle
      · simp [hs, takeRequest]
      · simp [hs, runSequencer_eq]
    | quiet => simp [runSequencer_eq]
    | blockReset => simp
    | readStatus => simp
    | otherMaster => by_cases hs : s.seq = .idle <;> simp [hs]

theorem coreRun_succ (M : Host.Core) (k : Nat) {s t : M.State} (h : M.step s = .next t) :
    M.run (k + 1) s = M.run k t := by
  simp [Host.Core.run, h]

theorem coreRun_succ_fault (M : Host.Core) (k : Nat) {s : M.State} {f : M.Fault} (h : M.step s = .fault f) :
    M.run (k + 1) s = .fault f := by
  simp [Host.Core.run, h]

theorem run_zero (s : State) : Sys2Proof.core.run 0 s = .next s := rfl

/-- A run whose first step answers a next state goes on from there. -/
theorem run_succ (k : Nat) {s t : State} (h : step s = .next t) :
    Sys2Proof.core.run (k + 1) s = Sys2Proof.core.run k t :=
  coreRun_succ Sys2Proof.core k h

theorem run_succ_fault (k : Nat) {s : State} {f : Fault} (h : step s = .fault f) :
    Sys2Proof.core.run (k + 1) s = .fault f :=
  coreRun_succ_fault Sys2Proof.core k h

/-- With no host move to come, a step is the CCB's own. -/
theorem step_of_no_move {s : State} (h : s.host = []) : step s = .next (sequencerState s) := by
  simp [step, stepWithHost, h, runSequencer_eq]

/-- The sequencer leaves the parameters, the host's moves and what the host has read. -/
theorem sequencerState_aside (s : State) : s.Aside (sequencerState s) := by
  unfold sequencerState
  split
  all_goals first
    | exact ⟨rfl, rfl, rfl⟩
    | exact State.finish_aside _ _ _
    | exact validateStep_aside s
    | exact State.convert_aside _ s
    | exact State.readSample_aside s
    | exact promReadInto_aside _ s
    | (refine State.memWrite_aside ?_ _ s; exact fun _ => ⟨rfl, rfl, rfl⟩)
    | (refine State.memRead2_aside ?_ _ s; exact fun _ _ _ => ⟨rfl, rfl, rfl⟩)

/-- With no host move to come, a run is the sequencer repeated. -/
theorem run_of_no_move (k : Nat) {s : State} (h : s.host = []) :
    Sys2Proof.core.run k s = .next (sequencerState^[k] s) := by
  induction k generalizing s with
  | zero => rfl
  | succ k ih =>
    rw [run_succ k (step_of_no_move h), ih (by rw [(sequencerState_aside s).2.1, h]), Function.iterate_succ_apply]

end Sys2Proof.Machine
end

