-- ==== Sys2Proof/Tests/Slice0.lean ====
section
/-! SUPPORT. The model's own tests, with expected values from spec/95_test_vectors.md and the encodings of
spec/30_encoding.md, and the witnesses for the hypotheses of the obligations. -/

namespace Sys2Proof.Tests

open Sys2Proof.Machine

-- THE WELL-FORMEDNESS SMOKE TEST: an ill-formed term for each check

theorem smoke_reserved4to7_below : (Instr.reserved4to7 0x3#4).wf = false := by decide
theorem smoke_reserved4to7_above : (Instr.reserved4to7 0x8#4).wf = false := by decide
theorem smoke_reserved8toF_below : (Instr.reserved8toF 0x7#4).wf = false := by decide
theorem smoke_reserved_bounds : (Instr.reserved4to7 0x4#4).wf = true ∧ (Instr.reserved4to7 0x7#4).wf = true ∧
    (Instr.reserved8toF 0x8#4).wf = true ∧ (Instr.reserved8toF 0xF#4).wf = true := by decide

-- DECODING: each constructor's word written out from R72, R74 and R75

theorem test_decode_init : decode (.request 0b0001#4) = .ok .init := by decide
theorem test_decode_readT : decode (.request 0b0010#4) = .ok .readT := by decide
theorem test_decode_readP : decode (.request 0b0011#4) = .ok .readP := by decide
theorem test_decode_reserved0 : decode (.request 0b0000#4) = .ok .reserved0 := by decide
theorem test_decode_reserved4to7 : decode (.request 0b0111#4) = .ok (.reserved4to7 0x7#4) := by decide
theorem test_decode_reserved8toF : decode (.request 0b1000#4) = .ok (.reserved8toF 0x8#4) := by decide
theorem test_decode_sensorReset : decode (.command 0b0001_1110#8) = .ok .sensorReset := by decide
theorem test_decode_promRead1 : decode (.command 0b1010_001_0#8) = .ok .promRead1 := by decide
theorem test_decode_promRead2 : decode (.command 0b1010_010_0#8) = .ok .promRead2 := by decide
theorem test_decode_promRead3 : decode (.command 0b1010_011_0#8) = .ok .promRead3 := by decide
theorem test_decode_promRead4 : decode (.command 0b1010_100_0#8) = .ok .promRead4 := by decide
theorem test_decode_promRead5 : decode (.command 0b1010_101_0#8) = .ok .promRead5 := by decide
theorem test_decode_promRead6 : decode (.command 0b1010_110_0#8) = .ok .promRead6 := by decide
theorem test_decode_promReadCrc : decode (.command 0b1010_111_0#8) = .ok .promReadCrc := by decide
theorem test_decode_promRead0 : decode (.command 0b1010_000_0#8) = .ok .promRead0 := by decide
theorem test_decode_convD1 : decode (.command 0b0100_1000#8) = .ok .convD1 := by decide
theorem test_decode_convD2 : decode (.command 0b0101_1000#8) = .ok .convD2 := by decide
theorem test_decode_adcRead : decode (.command 0b0000_0000#8) = .ok .adcRead := by decide
theorem test_decode_refuses : decode (.command 0xA3#8) = .error (.commandOutsideTable 0xA3#8) ∧
    decode (.command 0x40#8) = .error (.commandOutsideTable 0x40#8) := by decide
theorem test_table_word : decodeTableWord 8 0xA6 = some .promRead3 ∧ decodeTableWord 4 0x2 = some .readT ∧
    decodeTableWord 8 0x2 = some .readT ∧ decodeTableWord 4 0x0 = some .reserved0 ∧
    decodeTableWord 8 0x00 = some .adcRead ∧ decodeTableWord 8 0xFF = none := by decide

-- A SMALL STATE

/-- The source's calibration set C_S (95_test_vectors.md). -/
def cS : Calib := ⟨46954#16, 50001#16, 28678#16, 25683#16, 32024#16, 27516#16⟩

def params : Params := ⟨.doc7, 0#4, .d1First, 1000000, 1⟩

/-- The state after program 1's INIT (C_S, W7 = 0x000B, both checksums 0xB), with SEQ, VALID, PEND, the host's moves and
the sensor's answers as given. -/
def state (seq : SeqPos) (valid : Bool) (pend : Pend) (host : List HostMove) (answers : List BusAnswer) : State where
  cfg := params
  c := cS
  w0 := 0#16
  w7 := 0x000B#16
  crcStored := 0xB#4
  crcHeld := 0xB#4
  crcCalc := 0xB#4
  valid := valid
  d1 := 0#24
  d2 := 0#24
  pend := pend
  seq := seq
  timer := seq.timerLoad params
  result := 0#32
  lastStatus := 1#3
  lastReq := 1#4
  sensor := ⟨Vector.replicate 8 0#16, 0#24, none⟩
  answers := answers
  now := 0
  host := host
  responses := []
  trace := []
  statusReads := []

/-- A field of the next state. -/
def field {α : Type} (f : State → α) : Host.Outcome State Fault Refusal → Option α
  | .next s => some (f s)
  | .fault _ => none
  | .refused _ => none

def bytes (b0 b1 : Byte) : BusAnswer := .ok b0 b1 0#8

-- HOST REQUESTS (R171 to R174; vectors Q1 to Q4)

theorem test_init_accepted : field (fun t => (t.valid, t.seq)) (exec .init (state .idle true .none [] [])) =
    some (false, .init .sensorReset) := by decide
theorem test_readT_accepted : field State.seq (exec .readT (state .idle true .none [] [])) = some (.readT .conv) := by
  decide
theorem test_readT_not_initialized : field (fun t => (t.seq, t.responses)) (exec .readT (state .idle false .none [] [])) =
    some (.idle, [⟨2#4, .notInitialized, 0#32⟩]) := by decide
theorem test_readP_accepted : field State.seq (exec .readP (state .idle true .none [] [])) = some (.readP .conv1) := by
  decide
theorem test_readP_not_initialized : field (fun t => (t.lastStatus, t.lastReq))
    (exec .readP (state .idle false .none [] [])) = some (4#3, 3#4) := by decide
theorem test_reserved0 : field (fun t => (t.lastStatus, t.lastReq)) (exec .reserved0 (state .idle true .none [] [])) =
    some (5#3, 0#4) := by decide
theorem test_reserved7 : field (fun t => (t.lastStatus, t.lastReq, t.valid))
    (exec (.reserved4to7 7#4) (state .idle true .none [] [])) = some (5#3, 7#4, true) := by decide
theorem test_reservedF : field (fun t => t.responses) (exec (.reserved8toF 0xF#4) (state .idle true .none [] [])) =
    some [⟨0xF#4, .illegalRequest, 0#32⟩] := by decide
theorem test_held_while_busy : field State.seq (exec .readT (state (.init .prom1) false .none [] [])) =
    some (.init .prom1) := by decide

-- BUS OPERATIONS (vectors W1, W2, B1 to B8)

theorem test_sensorReset : field (fun t => (t.pend, t.seq, t.trace))
    (exec .sensorReset (state (.init .sensorReset) false .pressure [] [bytes 0 0])) =
    some (.none, .init .resetWait, [.write 1 0x1E#8 true]) := by decide
theorem test_promRead1 : field (fun t => t.c.c1)
    (exec .promRead1 (state (.init .prom1) false .none [] [bytes 0x01 0x02])) = some 258#16 := by decide
theorem test_promRead2 : field (fun t => (t.c.c2, t.seq))
    (exec .promRead2 (state (.init .prom2) false .none [] [bytes 0xC3 0x51])) = some (50001#16, .init .prom3) := by decide
theorem test_promRead3_failing : field (fun t => (t.c, t.lastStatus, t.seq))
    (exec .promRead3 (state (.init .prom3) false .none [] [.transportError])) = some (cS, 3#3, .idle) := by decide
theorem test_promRead4 : field (fun t => (t.c.c4, t.c.c3))
    (exec .promRead4 (state (.init .prom4) false .none [] [bytes 0x00 0x80])) = some (128#16, 28678#16) := by decide
theorem test_promRead5 : field (fun t => t.c.c5)
    (exec .promRead5 (state (.init .prom5) false .none [] [bytes 0x7D 0x18])) = some 32024#16 := by decide
theorem test_promRead6 : field (fun t => (t.c.c6, t.trace))
    (exec .promRead6 (state (.init .prom6) false .none [] [bytes 0xFF 0xFF])) =
    some (65535#16, [.read 1 0xAC#8 2 (some [0xFF#8, 0xFF#8])]) := by decide
theorem test_promReadCrc : field (fun t => (t.w7, t.crcStored))
    (exec .promReadCrc (state (.init .promCrc) false .none [] [bytes 0xAB 0xCD])) = some (0xABCD#16, 0xD#4) := by decide
theorem test_promRead0 : field (fun t => t.w0)
    (exec .promRead0 (state (.init .prom0) false .none [] [bytes 0x31 0x32])) = some 0x3132#16 := by decide
theorem test_convD1 : field (fun t => (t.pend, t.trace))
    (exec .convD1 (state (.readP .conv1) true .none [] [bytes 0 0])) = some (.pressure, [.write 1 0x48#8 true]) := by decide
theorem test_convD2_failing : field (fun t => (t.pend, t.lastStatus, t.lastReq, t.valid))
    (exec .convD2 (state (.readT .conv) true .none [] [.transportError])) = some (.none, 3#3, 2#4, true) := by decide
theorem test_convD2 : field (fun t => (t.pend, t.timer))
    (exec .convD2 (state (.readT .conv) true .none [] [bytes 0 0])) = some (.temperature, 9000) := by decide
theorem test_adcRead_temperature : field (fun t => (t.d1, t.d2, t.pend))
    (exec .adcRead (state (.readT .adc) true .temperature [] [.ok 0x81 0xB3 0x20])) =
    some (0#24, 8500000#24, .none) := by decide
theorem test_adcRead_pressure : field (fun t => (t.d1, t.d2))
    (exec .adcRead (state (.readP .adc1) true .pressure [] [.ok 0xFF 0xFF 0xFF])) = some (16777215#24, 0#24) := by decide

-- THE SEQUENCER, THE HOST'S MOVES AND STATUS

theorem test_wait_step : field (fun t => (t.seq, t.trace, t.timer)) (step (state (.init .resetWait) false .none [] [])) =
    some (.init .prom1, [.wait 3], 0) := by decide
theorem test_status_word_after_init : (state .idle true .none [] []).statusWord = 0x1BB09#32 := by decide
theorem test_status_word_busy : (state (.readT .conv) true .none [] []).statusWord = 0x1BB19#32 := by decide
theorem test_status_word_in_init : { state (.init .validate) false .none [] [] with crcHeld := 0xC#4 }.statusWord = 0x1BC11#32 := by
  decide
theorem test_block_reset_busy : field (fun t => (t.seq, t.valid, t.lastReq, t.responses))
    (step (state (.readT .conv) true .none [.blockReset] [])) = some (.idle, false, 0#4, []) := by decide

-- THE CHECKSUM (vectors K1, K5, K6, K10, E3)

theorem test_crc_k1 : crc4 (crcWordList .doc7 0#16 cS 0x000B#16) 0#4 = 0xB#4 := by decide +kernel
theorem test_crc_k5 : crc4 (crcWordList .doc7 0#16 cS 0x005E#16) 0#4 = 0xE#4 := by decide +kernel
theorem test_crc_k6 : crc4 (crcWordList .datasheet8 0#16 cS 0x00FB#16) 0#4 = 0xB#4 ∧
    crc4 (crcWordList .doc7 0#16 cS 0x00FB#16) 0#4 = 0x4#4 := by decide +kernel
theorem test_crc_k8 : crc4 (crcWordList .datasheet8 0x1234#16 cS 0x000B#16) 0#4 = 0xD#4 := by decide +kernel
theorem test_crc_k10_k11 : crc4 (crcWordList .doc7 0#16 cS 0xABCD#16) 0#4 = 0xD#4 ∧
    crc4 (crcWordList .doc7 0#16 cS 0x000B#16) 0xF#4 = 0x4#4 := by decide +kernel
theorem test_crc_e3 : crc4 [0x3132#16, 0x3334#16, 0x3536#16, 0x3738#16, 0x3940#16, 0x4142#16, 0x4344#16, 0x4500#16] 0#4 =
    0xB#4 := by decide +kernel

-- THE COMPENSATION (vectors T3, T6, T8, T10, T14, P1, P7, P9, P11, P14, E2, X1, X6, X7)

theorem test_temp_t3 : (dTOf cS 8198143#24, tempOf cS 8198143#24, compT cS 8198143#24) = (-1, 2000, 2000) := by decide
theorem test_temp_t6 : (tempOf cS 7893282#24, t2Of cS 7893282#24, compT cS 7893282#24) = (1001, 43, 958) := by decide
theorem test_temp_t8 : (tempOf cS 7130515#24, compT cS 7130515#24) = (-1501, -2031) := by decide
theorem test_temp_t10 : compT cS 0#24 = -56187 := by decide
theorem test_temp_t14 : compT ⟨0xFFFF#16, 0xFFFF#16, 0xFFFF#16, 0xFFFF#16, 0xFFFF#16, 0xFFFF#16⟩ 0#24 = -260136 := by decide
theorem test_second_w4_w5 : second 1999 = (2, 1) ∧ second (-1501) = (30642509, 15321256) ∧ second 2000 = (0, 0) := by decide
theorem test_press_p1 : (offOf cS 8500000#24, compP cS 9085466#24 8500000#24) = (3337432470, 106038) := by decide
theorem test_press_p7 : compP cS 9085466#24 7130515#24 = 93050 := by decide
theorem test_press_p9 : compP cS 9085466#24 0#24 = -313116 := by decide
theorem test_press_p11 : compP cS 0#24 8500000#24 = -101850 := by decide
theorem test_press_p14 : compP ⟨0xFFFF#16, 0xFFFF#16, 0xFFFF#16, 0xFFFF#16, 0xFFFF#16, 0xFFFF#16⟩ 16777215#24 0#24 =
    -22700452 := by decide
theorem test_press_e2 : compP ⟨40127#16, 36924#16, 23317#16, 23282#16, 33464#16, 28312#16⟩ 9085466#24 8569150#24 = 100009 := by
  decide
theorem test_datapath_p9 : (compP64 cS 9085466#24 0#24).toInt = -313116 ∧ (compT64 cS 0#24).toInt = -56187 := by decide

-- WITNESSES: for each obligation with hypotheses, a state and operands that meet them

theorem w_idle_inv (host : List HostMove) (answers : List BusAnswer) : (state .idle true .none host answers).Inv where
  validated := fun _ => ⟨test_crc_k1, rfl⟩
  stored := rfl
  validSeq := trivial
  pendSeq := trivial
  prom0Seq := nofun
  w0Doc7 := fun _ => rfl
  statusLegal := by change (1#3 : BitVec 3) ≤ 5#3; decide
  statusFits := by change statusFitsRequest 1#3 1#4; decide
  resultZero := .inl rfl
  timerSeq := rfl

theorem w_init_inv (host : List HostMove) (answers : List BusAnswer) :
    (state (.init .prom1) false .none host answers).Inv where
  validated := nofun
  stored := rfl
  validSeq := rfl
  pendSeq := trivial
  prom0Seq := nofun
  w0Doc7 := fun _ => rfl
  statusLegal := by change (1#3 : BitVec 3) ≤ 5#3; decide
  statusFits := by change statusFitsRequest 1#3 1#4; decide
  resultZero := .inl rfl
  timerSeq := rfl

theorem w_validate_inv (host : List HostMove) (answers : List BusAnswer) :
    (state (.init .validate) false .none host answers).Inv where
  validated := nofun
  stored := rfl
  validSeq := rfl
  pendSeq := trivial
  prom0Seq := nofun
  w0Doc7 := fun _ => rfl
  statusLegal := by change (1#3 : BitVec 3) ≤ 5#3; decide
  statusFits := by change statusFitsRequest 1#3 1#4; decide
  resultZero := .inl rfl
  timerSeq := rfl

theorem w_compute_inv (host : List HostMove) (answers : List BusAnswer) :
    (state (.readT .compute) true .none host answers).Inv where
  validated := fun _ => ⟨test_crc_k1, rfl⟩
  stored := rfl
  validSeq := rfl
  pendSeq := trivial
  prom0Seq := nofun
  w0Doc7 := fun _ => rfl
  statusLegal := by change (1#3 : BitVec 3) ≤ 5#3; decide
  statusFits := by change statusFitsRequest 1#3 1#4; decide
  resultZero := .inl rfl
  timerSeq := rfl

theorem w_computeP_inv (host : List HostMove) (answers : List BusAnswer) :
    (state (.readP .compute) true .none host answers).Inv where
  validated := fun _ => ⟨test_crc_k1, rfl⟩
  stored := rfl
  validSeq := rfl
  pendSeq := trivial
  prom0Seq := nofun
  w0Doc7 := fun _ => rfl
  statusLegal := by change (1#3 : BitVec 3) ≤ 5#3; decide
  statusFits := by change statusFitsRequest 1#3 1#4; decide
  resultZero := .inl rfl
  timerSeq := rfl

theorem w_DecodeOfEncodeIsIdentity : (Instr.reserved4to7 0x4#4).wf = true ∧ (Instr.reserved8toF 0xF#4).wf = true := by
  decide
theorem w_EncodeOfDecodeIsIdentity : decode (.command 0xA0#8) = .ok .promRead0 := by decide
theorem w_WordFitsExactlyItsDecodedRow : decode (.request 0x8#4) = .ok (.reserved8toF 0x8#4) ∧
    decode (.command 0xA1#8) = .error (.commandOutsideTable 0xA1#8) := by decide
theorem w_PromCommandCarriesTheIndex : (0xA0#8).extractLsb' 4 4 = 0b1010#4 ∧ (0xA0#8).extractLsb' 0 1 = 0b0#1 := by decide
theorem w_StepRunsDecodedInstruction_command :
    let s := state (.init .prom6) false .none [] []
    s.host = [] ∧ s.seq.work s.cfg = .command 0xAC#8 ∧ decode (.command 0xAC#8) = .ok .promRead6 := by decide
theorem w_StepRunsDecodedInstruction_quiet :
    let s := state (.readP .conv2) true .none [.quiet, .blockReset] []
    s.host = .quiet :: [.blockReset] ∧ s.seq.work s.cfg = .command 0x58#8 ∧ decode (.command 0x58#8) = .ok .convD2 := by
  decide
theorem w_StepRunsDecodedInstruction_request :
    let s := state .idle true .none [.request 0xF#4] []
    s.host = .request 0xF#4 :: [] ∧ s.seq = .idle ∧ decode (.request 0xF#4) = .ok (.reserved8toF 0xF#4) := by decide
theorem w_PlacedTableWordRunsNext : decodeTableWord 8 0x48 = some .convD1 ∧ decodeTableWord 4 0xC = some (.reserved8toF 0xC#4) := by
  decide
theorem w_WaitOnlyAdvancesTheSequencer :
    let s := state (.readT .convWait) true .temperature [] []
    s.host = [] ∧ s.seq.work s.cfg = .wait 9 := by decide
theorem w_WaitsStandBetweenCommandAndRead :
    SeqPos.work params (.init .sensorReset) = .command 0x1E#8 ∧ SeqPos.work params (.readP .conv1) = .command 0x48#8 ∧
    SeqPos.work params (.readT .conv) = .command 0x58#8 ∧
    SeqPos.work params (SeqPos.next params (.readP .wait2)) = .command 0x00#8 := by decide
theorem w_TimerCountIsTheCeiling : 3 * 1000001 ≤ 3001 * 1000 ∧ waitCycles 3 1000001 = 3001 := by decide
theorem w_InitClearsValidAndStarts : (state .idle false .none [] []).seq = .idle := by decide
theorem w_ReadsStartWhenValid : (state .idle true .none [] []).seq = .idle ∧ (state .idle true .none [] []).valid = true := by
  decide
theorem w_ReadsBeforeInitializationEnd :
    (state .idle false .none [] []).seq = .idle ∧ (state .idle false .none [] []).valid = false := by decide
theorem w_ReservedCodesEndAsIllegal : (state .idle true .pressure [] []).seq = .idle := by decide
theorem w_RequestIsHeldWhileBusy :
    let s := state (.readT .conv) true .none [.request 0x1#4] []
    s.seq ≠ .idle ∧ s.host = .request 0x1#4 :: [] ∧ isBusOperation (.reserved4to7 0x5#4) = false := by decide
theorem w_SensorResetChangesOnlyPend :
    (state (.init .sensorReset) false .none [] [.ok 1 2 3]).busAnswer 0x1E#8 = .ok 1 2 3 := by decide
theorem w_PromReadStoresItsCalibrationWord_failing :
    let s := state (.init .prom6) false .none [] [.transportError]
    Instr.promRead6 ∈ [Instr.promRead1, .promRead2, .promRead3, .promRead4, .promRead5, .promRead6] ∧
    encode .promRead6 = .command 0xAC#8 ∧ s.busAnswer 0xAC#8 = .transportError ∧ s.seq.requestCode = some 0x1#4 := by decide
theorem w_PromReadCrcStoresWordAndChecksum_failing :
    let s := state (.init .promCrc) false .none [] [.transportError]
    s.busAnswer 0xAE#8 = .transportError ∧ s.seq.requestCode = some 0x1#4 := by decide
theorem w_PromReadStoresItsCalibrationWord :
    let s := state (.init .prom1) false .none [] [.ok 0xFF 0x01 0]
    s.busAnswer 0xA2#8 = .ok 0xFF 0x01 0 ∧ s.busAnswer 0xA4#8 = .ok 0xFF 0x01 0 ∧ s.busAnswer 0xA6#8 = .ok 0xFF 0x01 0 ∧
    s.busAnswer 0xA8#8 = .ok 0xFF 0x01 0 ∧ s.busAnswer 0xAA#8 = .ok 0xFF 0x01 0 ∧ s.busAnswer 0xAC#8 = .ok 0xFF 0x01 0 ∧
    (0xFF01#16).toNat = (0xFF#8).toNat * 2 ^ 8 + (0x01#8).toNat := by decide
theorem w_PromReadCrcStoresWordAndChecksum :
    (state (.init .promCrc) false .none [] [.ok 1 2 0]).busAnswer 0xAE#8 = .ok 1 2 0 ∧
    (0x0102#16).toNat = (1#8).toNat * 2 ^ 8 + (2#8).toNat ∧ (2#4).toNat = (2#8).toNat &&& 0xF := by decide
theorem w_PromReadZeroStoresWordZero :
    (state (.init .prom0) false .none [] [.ok 1 2 0]).busAnswer 0xA0#8 = .ok 1 2 0 ∧
    (0x0102#16).toNat = (1#8).toNat * 2 ^ 8 + (2#8).toNat := by decide
theorem w_ConversionCommandSetsPend :
    (state (.readP .conv1) true .none [] [.ok 0 0 0]).busAnswer 0x48#8 = .ok 0 0 0 ∧
    (state (.readT .conv) true .none [] [.ok 0 0 0]).busAnswer 0x58#8 = .ok 0 0 0 := by decide
theorem w_AdcReadStoresByPend :
    (state (.readP .adc1) true .pressure [] [.ok 1 2 3]).busAnswer 0x00#8 = .ok 1 2 3 ∧
    (0x010203#24).toNat = (1#8).toNat * 2 ^ 16 + (2#8).toNat * 2 ^ 8 + (3#8).toNat := by decide
theorem w_TransportErrorEndsTheRequest :
    let s := state (.init .prom1) false .none [] [.transportError]
    encode .promRead1 = .command 0xA2#8 ∧ s.seq.requestCode = some 0x1#4 ∧ s.busAnswer 0xA2#8 = .transportError ∧ s.Inv :=
  ⟨by decide, by decide, by decide, w_init_inv _ _⟩
theorem w_FailedOperationOutsideARequestWritesNothing :
    let s := state .idle true .none [] [.transportError]
    encode .convD1 = .command 0x48#8 ∧ s.seq = .idle ∧ s.busAnswer 0x48#8 = .transportError := by decide
theorem w_OnlyListedTransactionsAreIssued :
    let s := state (.init .prom1) false .none [] [.ok 1 2 3]
    s.Inv ∧ (∃ t, step s = .next t) ∧
      field State.trace (step s) = some [.read 1 0xA2#8 2 (some [1#8, 2#8])] :=
  ⟨w_init_inv _ _, ⟨_, rfl⟩, by decide⟩
theorem w_ValidationComparesTheChecksums :
    let s := state (.init .validate) false .none [] []
    s.host = [] ∧ s.seq = .init .validate ∧ s.Inv ∧ s.imageCrc = s.crcStored ∧
      { s with crcStored := 0xA#4 }.imageCrc ≠ 0xA#4 :=
  ⟨rfl, rfl, w_validate_inv _ _, test_crc_k1, by decide +kernel⟩
theorem w_AlteredStoredChecksumIsRejected :
    let s := state (.init .validate) false .none [] []
    s.host = [] ∧ s.seq = .init .validate ∧ s.crcStored = s.w7.extractLsb' 0 4 ∧ s.imageCrc = s.crcStored ∧
      (0x000A#16).extractLsb' 4 12 = s.w7.extractLsb' 4 12 ∧ 0x000A#16 ≠ s.w7 :=
  ⟨rfl, rfl, rfl, test_crc_k1, by decide, by decide⟩
theorem w_HighNibbleOfTheLowByteInTheChecksum : (0x5#4 : Nibble) ≠ 0#4 ∧
    crc4 (crcWordList .doc7 0#16 cS 0x000B#16) 0#4 = (0x000B#16).extractLsb' 0 4 := by decide +kernel
theorem w_WordListsAgreeOnZeroWords : (0x120B#16).extractLsb' 4 4 = 0#4 := by decide
theorem w_DivisionTruncatesTowardZero : (0 : Int) < 8388608 ∧ tdiv (-1) 8388608 = 0 := by decide
theorem w_SmallProductsGiveReferenceTemperature : (dTOf cS 8197840#24 * uint cS.c6).natAbs < 2 ^ 23 := by decide
theorem w_WarmBranchHasNoCorrection : 2000 ≤ tempOf cS 8198144#24 := by decide
theorem w_SecondOrderTermsByRange : (-1500 : Int) ≤ -1500 ∧ (-1500 : Int) < 2000 ∧ (-1500 : Int) ≤ 1999 ∧ (1999 : Int) < 2000 ∧
    (-1501 : Int) < -1500 := by decide
theorem w_IntermediatesAreBounded : compP cS 9085466#24 8500000#24 ∈ intermediates cS 9085466#24 8500000#24 := by decide
theorem w_ComputeStepsReturnTheCompensation :
    (state (.readT .compute) true .none [] []).host = [] ∧ (state (.readT .compute) true .none [] []).seq = .readT .compute ∧
    (state (.readP .compute) true .none [] []).host = [] ∧ (state (.readP .compute) true .none [] []).seq = .readP .compute := by
  decide

/-- Program 1's answers to INIT: the high and the low byte of each of the eight reads, the reset first. -/
def initHigh (n : Nat) : Byte := [0x00#8, 0xB7#8, 0xC3#8, 0x70#8, 0x64#8, 0x7D#8, 0x6B#8, 0x00#8].getD n 0#8
def initLow (n : Nat) : Byte := [0x00#8, 0x6A#8, 0x51#8, 0x06#8, 0x53#8, 0x18#8, 0x7C#8, 0x0B#8].getD n 0#8
def initWord (n : Nat) : Word := wordOfBytes (initHigh n) (initLow n)

theorem w_word_of_bytes (n : Nat) : (initWord n).toNat = (initHigh n).toNat * 2 ^ 8 + (initLow n).toNat := by
  simp only [initWord, wordOfBytes, BitVec.toNat_append]
  rw [← Nat.shiftLeft_add_eq_or_of_lt (initLow n).isLt, Nat.shiftLeft_eq]

def initAnswers : List BusAnswer :=
  [.ok (initHigh 0) (initLow 0) 0, .ok (initHigh 1) (initLow 1) 0, .ok (initHigh 2) (initLow 2) 0,
   .ok (initHigh 3) (initLow 3) 0, .ok (initHigh 4) (initLow 4) 0, .ok (initHigh 5) (initLow 5) 0,
   .ok (initHigh 6) (initLow 6) 0, .ok (initHigh 7) (initLow 7) 0]

theorem w_InitLoadsAndValidates :
    let s := state .idle true .none [.request 0x1#4] initAnswers
    s.seq = .idle ∧ s.host = [.request 0x1#4] ∧ s.cfg.crcWordSet = .doc7 ∧ s.answers = initAnswers ++ [] ∧
      ∀ n, (initWord n).toNat = (initHigh n).toNat * 2 ^ 8 + (initLow n).toNat :=
  ⟨rfl, rfl, rfl, rfl, w_word_of_bytes⟩
theorem w_InitReadsWordZeroUnderDatasheet8 :
    let s : State := { state .idle true .none [.request 0x1#4] (.ok 0 0 0 :: initAnswers) with
      cfg := { params with crcWordSet := .datasheet8 } }
    s.seq = .idle ∧ s.host = [.request 0x1#4] ∧ s.cfg.crcWordSet = .datasheet8 ∧
      s.answers = .ok (initHigh 8) (initLow 8) 0 :: initAnswers ++ [] ∧
      ∀ n, (initWord n).toNat = (initHigh n).toNat * 2 ^ 8 + (initLow n).toNat :=
  ⟨rfl, rfl, rfl, rfl, w_word_of_bytes⟩
theorem w_ReadTReturnsFreshTemperature :
    let s := state .idle true .none [.request 0x2#4] [.ok 0 0 0, .ok 0x81 0xB3 0x20]
    s.seq = .idle ∧ s.valid = true ∧ s.host = [.request 0x2#4] ∧ s.answers = [.ok 0 0 0, .ok 0x81 0xB3 0x20] ++ [] ∧
      (8500000#24).toNat = (0x81#8).toNat * 2 ^ 16 + (0xB3#8).toNat * 2 ^ 8 + (0x20#8).toNat := by decide
theorem w_ReadPReturnsFreshPressure :
    let s := state .idle true .none [.request 0x3#4] [.ok 0 0 0, .ok 0x8A 0xA2 0x1A, .ok 0 0 0, .ok 0x81 0xB3 0x20]
    s.seq = .idle ∧ s.valid = true ∧ s.host = [.request 0x3#4] ∧ s.cfg.pConvOrder = .d1First ∧
      s.answers = [.ok 0 0 0, .ok 0x8A 0xA2 0x1A, .ok 0 0 0, .ok 0x81 0xB3 0x20] ++ [] ∧
      (9085466#24).toNat = (0x8A#8).toNat * 2 ^ 16 + (0xA2#8).toNat * 2 ^ 8 + (0x1A#8).toNat ∧
      (8500000#24).toNat = (0x81#8).toNat * 2 ^ 16 + (0xB3#8).toNat * 2 ^ 8 + (0x20#8).toNat := by decide
theorem w_ReadPReturnsFreshPressure_d2First :
    let s : State := { state .idle true .none [.request 0x3#4] [.ok 0 0 0, .ok 0x81 0xB3 0x20, .ok 0 0 0, .ok 0x8A 0xA2 0x1A] with
      cfg := { params with pConvOrder := .d2First } }
    s.seq = .idle ∧ s.valid = true ∧ s.host = [.request 0x3#4] ∧ s.cfg.pConvOrder = .d2First ∧
      s.answers = [.ok 0 0 0, .ok 0x81 0xB3 0x20, .ok 0 0 0, .ok 0x8A 0xA2 0x1A] ++ [] ∧
      (9085466#24).toNat = (0x8A#8).toNat * 2 ^ 16 + (0xA2#8).toNat * 2 ^ 8 + (0x1A#8).toNat ∧
      (8500000#24).toNat = (0x81#8).toNat * 2 ^ 16 + (0xB3#8).toNat * 2 ^ 8 + (0x20#8).toNat := by decide
theorem w_EveryRequestEndsWithOneResponse :
    (state (.init .sensorReset) false .none [] []).host = [] ∧ (state (.init .sensorReset) false .none [] []).seq ≠ .idle ∧
    (state .idle true .none [] []).host = [] ∧ (state .idle true .none [] []).seq = .idle := by decide
theorem w_BlockResetResetsEveryRegister :
    (state (.readP .wait1) true .pressure [.blockReset, .quiet] []).host = .blockReset :: [.quiet] := by decide
theorem w_StatusWordFields :
    (state (.init .prom1) false .none [] []).seq = .init .prom1 ∧ ∀ k, (state .idle true .none [] []).seq ≠ .init k :=
  ⟨rfl, nofun⟩
theorem w_StatusShowsThePreviousRequestWhileBusy :
    let s := state (.init .promCrc) false .none [] [.ok 0xAB 0xCD 0]
    field (fun t => (t.seq, t.crcStored, t.statusWord)) (step s) = some (.init .validate, 0xD#4, s.statusWord) := by decide
theorem w_StatusShowsThePreviousRequestWhileBusy_inv :
    let s := state .idle true .none [.request 0x1#4] []
    s.Inv ∧ ∃ t, step s = .next t ∧ t.seq = .init .sensorReset := ⟨w_idle_inv _ _, _, rfl, rfl⟩
theorem w_StatusReadChangesNothing :
    (state (.readP .wait1) true .pressure [.readStatus] []).host = .readStatus :: [] := by decide
theorem w_StepKeepsTheInvariant :
    let s := state (.init .prom1) false .none [] [.ok 1 2 3]
    s.Inv ∧ ∃ t, step s = .next t := ⟨w_init_inv _ _, _, rfl⟩
theorem w_NoReadingWithoutValidation :
    let s := state (.readT .compute) true .none [] []
    s.Inv ∧ (∃ t, step s = .next t ∧ t.responses = s.responses ++ [⟨0x2#4, .ok, BitVec.ofInt 32 (-56187)⟩]) :=
  ⟨w_compute_inv _ _, _, rfl, by decide +kernel⟩
theorem w_NoReadingWithoutValidation_pressure :
    let s := state (.readP .compute) true .none [] []
    s.Inv ∧ (∃ t, step s = .next t ∧ (t.responses.map Response.code, t.responses.map Response.status) = ([0x3#4], [.ok])) :=
  ⟨w_computeP_inv _ _, _, rfl, by decide⟩
theorem w_CompletionRecordFollowsTheResponse :
    (∃ t, step (state .idle true .none [.request 0x0#4] []) = .next t ∧ t.responses ≠ []) ∧
    (∃ t, step (state .idle true .none [.blockReset] []) = .next t ∧ t.responses = []) ∧
    (∃ t, step (state .idle true .none [.request 0x1#4] []) = .next t ∧ t.responses = []) :=
  ⟨⟨_, rfl, by decide⟩, ⟨_, rfl, by decide⟩, ⟨_, rfl, by decide⟩⟩
theorem w_WritersOfEachRegister :
    let s := state (.init .prom1) false .none [.quiet] [.ok 1 2 3]
    s.Inv ∧ (∃ t, step s = .next t ∧ t.c ≠ s.c) ∧ ∀ rest, s.host ≠ .blockReset :: rest :=
  ⟨w_init_inv _ _, ⟨_, rfl, by decide⟩, nofun⟩
theorem w_ParametersAndPromNeverChange : ∃ t, step (state .idle true .none [.blockReset] []) = .next t := ⟨_, rfl⟩
theorem w_EarlierSamplesAreNeverRead :
    let s := state .idle true .none [.request 0x1#4, .otherMaster] []
    s.Inv ∧ s.seq = .idle ∧ (∃ t, Sys2Proof.core.run 1 s = .next t) ∧
      Sys2Proof.core.run 2 s = .fault .hostActionOutsideTable :=
  ⟨w_idle_inv _ _, rfl, ⟨_, rfl⟩, rfl⟩
theorem w_ForeignMasterOnlyWhileIdle :
    (state (.readT .conv) true .none [.otherMaster] []).host = .otherMaster :: [] ∧
    (state (.readT .conv) true .none [.otherMaster] []).seq ≠ .idle ∧
    (state .idle true .none [.otherMaster] []).host = .otherMaster :: [] ∧
    (state .idle true .none [.otherMaster] []).seq = .idle := by decide

end Sys2Proof.Tests
end

section
/-! PROOFS. The family '00_scope.md': truncating division (R9), and what no step changes (R5, R35). -/

namespace Sys2Proof.Machine

/-- R9 for either sign: a truncated quotient has the dividend's sign and the floor of the magnitudes' quotient. -/
theorem tdiv_eq_sign_mul (a : Int) (n : Nat) : tdiv a n = a.sign * ((a.natAbs / n : Nat) : Int) := by
  calc tdiv a n
      = Int.tdiv (a.sign * a.natAbs) n := by rw [Int.sign_mul_natAbs, tdiv]
    _ = a.sign * ((a.natAbs / n : Nat) : Int) := by
        rcases lt_trichotomy a 0 with ha | rfl | ha
        · simp [Int.sign_eq_neg_one_of_neg ha, Int.neg_tdiv, Int.tdiv_eq_ediv_of_nonneg]
        · simp
        · simp [Int.sign_eq_one_of_pos ha, Int.tdiv_eq_ediv_of_nonneg]

/-- Settles O33: a positive divisor is its own magnitude. -/
theorem divisionTruncatesTowardZero : Obligations.DivisionTruncatesTowardZero := by
  intro a b hb
  have hmag : ((b.natAbs : Nat) : Int) = b := Int.natAbs_of_nonneg hb.le
  rw [← tdiv_eq_sign_mul, hmag]

/-! What the acceptance of a request does (R170 to R174). -/

/-- A read that is accepted runs when VALID = 1 and is answered NOT_INITIALIZED at once otherwise (R204). -/
theorem State.startRead_cases (code : Nibble) (first : SeqPos) (s : State) :
    (s.valid = true ∧ s.startRead code first = s.goto first) ∨
    (s.valid = false ∧ s.startRead code first = s.complete code .notInitialized 0) := by
  cases h : s.valid <;> simp [State.startRead, h]

/-- What the idle CCB does with each code on the request port. -/
theorem exec_decodeRequest_cases {s : State} (h : s.seq = .idle) (code : Nibble) :
    (code = 0x1#4 ∧ exec (decodeRequest code) s =
      .next ({ s with valid := false, crcHeld := s.crcStored }.goto (.init .sensorReset))) ∨
    (code = 0x2#4 ∧ exec (decodeRequest code) s = .next (s.startRead 0x2#4 (.readT .conv))) ∨
    (code = 0x3#4 ∧ exec (decodeRequest code) s = .next (s.startRead 0x3#4 (.readP .conv1))) ∨
    (code ≠ 0x1#4 ∧ code ≠ 0x2#4 ∧ code ≠ 0x3#4 ∧ exec (decodeRequest code) s = .next (s.illegal code)) := by
  by_cases h1 : code = 0x1#4
  · subst h1; exact .inl ⟨rfl, congrArg _ (State.accept_of_idle _ h)⟩
  by_cases h2 : code = 0x2#4
  · subst h2; exact .inr (.inl ⟨rfl, congrArg _ (State.accept_of_idle _ h)⟩)
  by_cases h3 : code = 0x3#4
  · subst h3; exact .inr (.inr (.inl ⟨rfl, congrArg _ (State.accept_of_idle _ h)⟩))
  refine .inr (.inr (.inr ⟨h1, h2, h3, ?_⟩))
  simp only [decodeRequest, h1, h2, h3, if_false]
  split
  · rename_i h0; subst h0; exact congrArg _ (State.accept_of_idle _ h)
  · split <;> exact congrArg _ (State.accept_of_idle _ h)

/-! The sensor's PROM is no operation's to write (R35; log 6). -/

@[simp] theorem State.finish_sensor (s : State) (st : Status) (v : Int) : (s.finish st v).sensor = s.sensor := by
  rcases s.finish_cases st v with ⟨-, h⟩ | ⟨code, -, h⟩ <;> simp [h]

@[simp] theorem State.raise_sensor (s : State) (st : Status) : (s.raise st).sensor = s.sensor :=
  s.finish_sensor st 0

@[simp] theorem waitStep_sensor (ms : Nat) (s : State) : (waitStep ms s).sensor = s.sensor := rfl

@[simp] theorem validateStep_sensor (s : State) : (validateStep s).sensor = s.sensor := by
  rcases validateStep_cases s with ⟨-, h⟩ | ⟨-, h⟩ <;> simp [h]

@[simp] theorem State.storeSample_sensor (s : State) (v : Sample) : (s.storeSample v).sensor = s.sensor := by
  rcases s.storeSample_cases v with ⟨-, h⟩ | ⟨-, h⟩ | ⟨-, h⟩ <;> simp [h]

/-- A MemWrite leaves the PROM when the operation's own effect does. -/
theorem State.memWrite_prom {f : State → State} (hf : ∀ s : State, (f s).sensor.prom = s.sensor.prom)
    (cmd : Byte) (s : State) : (s.memWrite cmd f).sensor.prom = s.sensor.prom := by
  rcases s.busAnswer_cases cmd with h | ⟨b0, b1, b2, h⟩
  · simp [memWrite_of_error f h]
  · simp [memWrite_of_ok f h, hf]

/-- A read of two bytes leaves the PROM when the operation's own effect does. -/
theorem State.memRead2_prom {f : Byte → Byte → State → State}
    (hf : ∀ b0 b1 (s : State), (f b0 b1 s).sensor.prom = s.sensor.prom)
    (cmd : Byte) (s : State) : (s.memRead2 cmd f).sensor.prom = s.sensor.prom := by
  rcases s.busAnswer_cases cmd with h | ⟨b0, b1, b2, h⟩
  · simp [memRead2_of_error f h]
  · simp [memRead2_of_ok f h, hf]

/-- A read of three bytes leaves the PROM when the operation's own effect does. -/
theorem State.memRead3_prom {f : Byte → Byte → Byte → State → State}
    (hf : ∀ b0 b1 b2 (s : State), (f b0 b1 b2 s).sensor.prom = s.sensor.prom)
    (cmd : Byte) (s : State) : (s.memRead3 cmd f).sensor.prom = s.sensor.prom := by
  rcases s.busAnswer_cases cmd with h | ⟨b0, b1, b2, h⟩
  · simp [memRead3_of_error f h]
  · simp [memRead3_of_ok f h, hf]

@[simp] theorem State.convert_prom (ch : Channel) (s : State) : (s.convert ch).sensor.prom = s.sensor.prom := by
  refine memWrite_prom ?_ _ s
  exact fun _ => rfl

@[simp] theorem State.readSample_prom (s : State) : s.readSample.sensor.prom = s.sensor.prom :=
  memRead3_prom (fun _ _ _ _ => by rw [storeSample_sensor]) _ s

@[simp] theorem promReadInto_prom (n : CalIndex) (s : State) : (promReadInto n s).sensor.prom = s.sensor.prom := by
  refine State.memRead2_prom ?_ _ s
  exact fun _ _ _ => rfl

/-- The CCB's own step leaves the PROM, at every position of SEQ. -/
theorem sequencerState_prom (s : State) : (sequencerState s).sensor.prom = s.sensor.prom := by
  unfold sequencerState
  split <;> simp [State.memWrite_prom, State.memRead2_prom, computeTStep, computePStep]

/-! What no step writes: the parameters of R5 and the sensor's PROM. -/

/-- The two states have the same parameters and the same PROM. -/
def State.SameFixed (s t : State) : Prop :=
  t.cfg = s.cfg ∧ t.sensor.prom = s.sensor.prom

theorem sequencerState_sameFixed (s : State) : s.SameFixed (sequencerState s) :=
  ⟨(sequencerState_aside s).1, sequencerState_prom s⟩

theorem State.startRead_sameFixed (code : Nibble) (first : SeqPos) (s : State) :
    s.SameFixed (s.startRead code first) := by
  rcases s.startRead_cases code first with ⟨-, h⟩ | ⟨-, h⟩ <;> rw [h] <;> exact ⟨rfl, rfl⟩

/-- Whatever code the idle CCB accepts, it keeps the parameters and the PROM. -/
theorem exec_decodeRequest_sameFixed {s t : State} {code : Nibble} (hidle : s.seq = .idle)
    (h : exec (decodeRequest code) s = .next t) : s.SameFixed t := by
  rcases exec_decodeRequest_cases hidle code with ⟨-, he⟩ | ⟨-, he⟩ | ⟨-, he⟩ | ⟨-, -, -, he⟩ <;>
    obtain rfl := Host.Outcome.next.inj (he.symm.trans h)
  · exact ⟨rfl, rfl⟩
  · exact s.startRead_sameFixed _ _
  · exact s.startRead_sameFixed _ _
  · exact ⟨rfl, rfl⟩

/-- Settles O57, by the host's next move: the CCB's own step, an acceptance, or a move that is a step of its own. -/
theorem parametersAndPromNeverChange : Obligations.ParametersAndPromNeverChange := by
  intro s t h
  change s.SameFixed t
  rcases step_cases s with ⟨-, he⟩ | ⟨rest, -, he⟩ | ⟨code, rest, -, hidle, he⟩ | ⟨code, rest, -, -, he⟩ |
    ⟨rest, -, he⟩ | ⟨rest, -, he⟩ | ⟨rest, -, -, he⟩ | ⟨rest, -, -, he⟩ <;> rw [he] at h
  case inr.inr.inl =>
    exact exec_decodeRequest_sameFixed (s := { s with host := rest }) hidle h
  all_goals cases h
  · exact sequencerState_sameFixed s
  · exact sequencerState_sameFixed { s with host := rest }
  · exact sequencerState_sameFixed s
  all_goals exact ⟨rfl, rfl⟩

end Sys2Proof.Machine
end

section
/-! PROOFS. The family '10_state.md': the STATUS word, what a step can do to the registers, and the invariant. -/

namespace Sys2Proof.Machine

/-! The STATUS word (R31), field by field. -/

section StatusWord

variable (s : State)

/-- The STATUS word at the width its parts add up to, where the library's laws of `++` apply. The lemmas below keep
`Nat.reduceAdd` from folding that sum, which would hide the parts' widths from those laws. -/
theorem State.statusWord_eq_append : s.statusWord =
    (0#12 ++ s.lastReq ++ s.crcCalc ++ s.shownCrcStored ++ 0#3 ++ BitVec.ofBool s.busy ++ BitVec.ofBool s.valid ++
      s.lastStatus : BitVec (12 + 4 + 4 + 4 + 3 + 1 + 1 + 3)) :=
  rfl

@[simp] theorem State.statusWord_lastStatus : s.statusWord.extractLsb' 0 3 = s.lastStatus := by
  simp [-Nat.reduceAdd, statusWord_eq_append, BitVec.extractLsb'_append_eq_of_add_le]

@[simp] theorem State.statusWord_reservedLow : s.statusWord.extractLsb' 5 3 = 0#3 := by
  simp [-Nat.reduceAdd, statusWord_eq_append, BitVec.extractLsb'_append_eq_of_le, BitVec.extractLsb'_append_eq_of_add_le]

@[simp] theorem State.statusWord_crcStored : s.statusWord.extractLsb' 8 4 = s.shownCrcStored := by
  simp [-Nat.reduceAdd, statusWord_eq_append, BitVec.extractLsb'_append_eq_of_le, BitVec.extractLsb'_append_eq_of_add_le]

@[simp] theorem State.statusWord_crcCalc : s.statusWord.extractLsb' 12 4 = s.crcCalc := by
  simp [-Nat.reduceAdd, statusWord_eq_append, BitVec.extractLsb'_append_eq_of_le, BitVec.extractLsb'_append_eq_of_add_le]

@[simp] theorem State.statusWord_lastReq : s.statusWord.extractLsb' 16 4 = s.lastReq := by
  simp [-Nat.reduceAdd, statusWord_eq_append, BitVec.extractLsb'_append_eq_of_le, BitVec.extractLsb'_append_eq_of_add_le]

@[simp] theorem State.statusWord_reservedHigh : s.statusWord.extractLsb' 20 12 = 0#12 := by
  simp [-Nat.reduceAdd, statusWord_eq_append, BitVec.extractLsb'_append_eq_of_le]

@[simp] theorem State.statusWord_valid : s.statusWord.getLsbD 3 = s.valid := by
  simp [-Nat.reduceAdd, -BitVec.getLsbD_eq_getElem, statusWord_eq_append, BitVec.getLsbD_append]

@[simp] theorem State.statusWord_busy : s.statusWord.getLsbD 4 = s.busy := by
  simp [-Nat.reduceAdd, -BitVec.getLsbD_eq_getElem, statusWord_eq_append, BitVec.getLsbD_append]

/-- BUSY is 1 exactly while SEQ ≠ IDLE (R25). -/
theorem State.busy_iff : s.busy = true ↔ s.seq ≠ .idle := by
  simp [State.busy]

end StatusWord

/-- Settles O49: each field by its own lemma, and CRC_STORED by whether INIT runs. -/
theorem statusWordFields : Obligations.StatusWordFields := by
  intro s
  refine ⟨s.statusWord_lastStatus, s.statusWord_valid, ?_, s.statusWord_reservedLow, ?_, ?_, s.statusWord_crcCalc,
    s.statusWord_lastReq, s.statusWord_reservedHigh⟩
  · rw [s.statusWord_busy, s.busy_iff]
  · intro k hk
    rw [s.statusWord_crcStored, State.shownCrcStored_of_init hk]
  · intro hk
    rw [s.statusWord_crcStored, State.shownCrcStored_of_not_init hk]

/-! What surrounds the CCB's registers, and what a step can do to the registers. -/

/-- What a step may change beside the CCB's registers and its responses: the sensor, the bus and the host's side. -/
structure Surroundings where
  sensor : Sensor
  answers : List BusAnswer
  now : Nat
  host : List HostMove
  trace : List BusEvent
  statusReads : List StatusRead

/-- The same registers, parameters and responses in other surroundings. -/
def State.within (e : Surroundings) (s : State) : State :=
  { s with
    sensor := e.sensor
    answers := e.answers
    now := e.now
    host := e.host
    trace := e.trace
    statusReads := e.statusReads }

/-- The surroundings a state stands in. -/
def State.surroundings (s : State) : Surroundings :=
  ⟨s.sensor, s.answers, s.now, s.host, s.trace, s.statusReads⟩

/-- The invariant speaks of the registers and the parameters only. -/
theorem State.Inv.within {s : State} (h : s.Inv) (e : Surroundings) : (s.within e).Inv where
  validated := h.validated
  stored := h.stored
  validSeq := h.validSeq
  pendSeq := h.pendSeq
  prom0Seq := h.prom0Seq
  w0Doc7 := h.w0Doc7
  statusLegal := h.statusLegal
  statusFits := h.statusFits
  resultZero := h.resultZero
  timerSeq := h.timerSeq

/-- The place of PROM_READ n in INIT's sequence (R171). -/
def CalIndex.position : CalIndex → SeqPos
  | .n1 => .init .prom1
  | .n2 => .init .prom2
  | .n3 => .init .prom3
  | .n4 => .init .prom4
  | .n5 => .init .prom5
  | .n6 => .init .prom6

/-- Every change a step other than the block reset can make to the registers, with the code it accepts, if any. -/
inductive RegisterStep (s : State) : Option Nibble → State → Prop
  /-- The CCB is idle, or the host only reads STATUS, or another master uses the idle bus. -/
  | stay : RegisterStep s none s
  /-- INIT is accepted (R171). -/
  | initAccepted (idle : s.seq = .idle) :
    RegisterStep s (some 0x1#4) ({ s with valid := false, crcHeld := s.crcStored }.goto (.init .sensorReset))
  /-- A read is accepted over a validated set (R172, R173). -/
  | readAccepted (code : Nibble) (first : SeqPos) (idle : s.seq = .idle) (valid : s.valid = true)
    (start : first = .readT .conv ∨ first = .readP .conv1) : RegisterStep s (some code) (s.goto first)
  /-- A read is accepted before a set is validated (R204). -/
  | readRefused (code : Nibble) (idle : s.seq = .idle) (read : code = 0x2#4 ∨ code = 0x3#4) :
    RegisterStep s (some code) (s.complete code .notInitialized 0)
  /-- A reserved code is accepted (R174). -/
  | illegal (code : Nibble) (idle : s.seq = .idle) (reserved : code ≠ 0x1#4 ∧ code ≠ 0x2#4 ∧ code ≠ 0x3#4) :
    RegisterStep s (some code) (s.complete code .illegalRequest 0)
  /-- A transaction of the running request fails (R202). -/
  | failed (code : Nibble) (running : s.seq.requestCode = some code) :
    RegisterStep s none (s.complete code .transportError 0)
  /-- SENSOR_RESET (R100). -/
  | sensorReset (pos : s.seq = .init .sensorReset) : RegisterStep s none { s with pend := .none }.advance
  /-- PROM_READ 0 (R103). -/
  | promRead0 (w : Word) (pos : s.seq = .init .prom0) : RegisterStep s none { s with w0 := w }.advance
  /-- PROM_READ n (R101). -/
  | promRead (n : CalIndex) (w : Word) (pos : s.seq = n.position) :
    RegisterStep s none { s with c := s.c.set w n }.advance
  /-- PROM_READ_CRC (R102). -/
  | promReadCrc (b0 b1 : Byte) (pos : s.seq = .init .promCrc) :
    RegisterStep s none { s with w7 := wordOfBytes b0 b1, crcStored := checksumOfByte b1 }.advance
  /-- The checksums match (R106). -/
  | validated (pos : s.seq = .init .validate) (matched : s.imageCrc = s.crcStored) :
    RegisterStep s none ({ s with crcCalc := s.imageCrc, valid := true }.complete 0x1#4 .ok 0)
  /-- The checksums differ (R106). -/
  | rejected (pos : s.seq = .init .validate) :
    RegisterStep s none ({ s with crcCalc := s.imageCrc }.complete 0x1#4 .calError 0)
  /-- A wait (R240). -/
  | waited (ms : Nat) (work : s.seq.work s.cfg = .wait ms) : RegisterStep s none s.advance
  /-- A conversion is started (R120, R121). -/
  | converted (ch : Channel) (work : s.seq.work s.cfg = .command (convCommand ch)) :
    RegisterStep s none { s with pend := Pend.ofChannel ch }.advance
  /-- A pressure sample is read (R122). -/
  | sampledD1 (v : Sample) (work : s.seq.work s.cfg = .command 0x00#8) (pend : s.pend = .pressure) :
    RegisterStep s none { s with d1 := v, pend := .none }.advance
  /-- A temperature sample is read (R122). -/
  | sampledD2 (v : Sample) (work : s.seq.work s.cfg = .command 0x00#8) (pend : s.pend = .temperature) :
    RegisterStep s none { s with d2 := v, pend := .none }.advance
  /-- A sample is read that belongs to no conversion (R122). -/
  | sampledNothing (work : s.seq.work s.cfg = .command 0x00#8) (pend : s.pend = .none) :
    RegisterStep s none { s with pend := .none }.advance
  /-- READ_T ends (R172). -/
  | computedT (pos : s.seq = .readT .compute) : RegisterStep s none (s.complete 0x2#4 .ok (compT s.c s.d2))
  /-- READ_P ends (R173). -/
  | computedP (pos : s.seq = .readP .compute) : RegisterStep s none (s.complete 0x3#4 .ok (compP s.c s.d1 s.d2))

/-- In some surroundings, the step takes the registers from `s` to `t`, accepting this code, if any. -/
def State.Moves (s : State) (accepted : Option Nibble) (t : State) : Prop :=
  ∃ e : Surroundings, RegisterStep (s.within e) accepted t

/-- A step that starts from the same registers in other surroundings. -/
theorem RegisterStep.moves {s u t : State} {accepted : Option Nibble} (h : RegisterStep u accepted t)
    (hu : u = s.within u.surroundings) : s.Moves accepted t :=
  ⟨u.surroundings, hu ▸ h⟩

/-- The running request ends with TRANSPORT_ERROR, whatever the failed transaction did to the sensor (R202). -/
theorem State.raise_moves {s u : State} {code : Nibble} (hrun : s.seq.requestCode = some code)
    (hu : u = s.within u.surroundings) : s.Moves none (u.raise .transportError) := by
  have hrun' : u.seq.requestCode = some code := by rw [hu]; exact hrun
  rw [State.raise, finish_of_running _ _ hrun']
  exact (RegisterStep.failed code hrun').moves hu

/-- A MemWrite of the running request fails, or does what its effect does (R202). -/
theorem State.memWrite_moves {s : State} {code : Nibble} {f : State → State} (hrun : s.seq.requestCode = some code)
    (hf : ∀ e, s.Moves none (f (s.transacted e)).advance) (cmd : Byte) : s.Moves none (s.memWrite cmd f) := by
  rcases s.busAnswer_cases cmd with h | ⟨b0, b1, b2, h⟩
  · rw [memWrite_of_error f h]; exact raise_moves hrun rfl
  · rw [memWrite_of_ok f h]; exact hf _

/-- A read of two bytes of the running request fails, or does what its effect does (R202). -/
theorem State.memRead2_moves {s : State} {code : Nibble} {f : Byte → Byte → State → State}
    (hrun : s.seq.requestCode = some code) (hf : ∀ b0 b1 e, s.Moves none (f b0 b1 (s.transacted e)).advance)
    (cmd : Byte) : s.Moves none (s.memRead2 cmd f) := by
  rcases s.busAnswer_cases cmd with h | ⟨b0, b1, b2, h⟩
  · rw [memRead2_of_error f h]; exact raise_moves hrun rfl
  · rw [memRead2_of_ok f h]; exact hf _ _ _

/-- A read of three bytes of the running request fails, or does what its effect does (R202). -/
theorem State.memRead3_moves {s : State} {code : Nibble} {f : Byte → Byte → Byte → State → State}
    (hrun : s.seq.requestCode = some code)
    (hf : ∀ b0 b1 b2 e, s.Moves none (f b0 b1 b2 (s.transacted e).disturbSensor).advance)
    (cmd : Byte) : s.Moves none (s.memRead3 cmd f) := by
  rcases s.busAnswer_cases cmd with h | ⟨b0, b1, b2, h⟩
  · rw [memRead3_of_error f h]; exact raise_moves hrun rfl
  · rw [memRead3_of_ok f h]; exact hf _ _ _ _

theorem waitStep_moves {s : State} (ms : Nat) (hwork : s.seq.work s.cfg = .wait ms) :
    s.Moves none (waitStep ms s) :=
  (RegisterStep.waited (s := s.record (.wait ms)) ms hwork).moves rfl

theorem promReadInto_moves {s : State} (n : CalIndex) (hpos : s.seq = n.position) :
    s.Moves none (promReadInto n s) := by
  have hrun : s.seq.requestCode = some 0x1#4 := by rw [hpos]; cases n <;> rfl
  refine State.memRead2_moves hrun ?_ _
  exact fun b0 b1 e => (RegisterStep.promRead (s := s.transacted e) n (wordOfBytes b0 b1) hpos).moves rfl

theorem State.convert_moves {s : State} {code : Nibble} (ch : Channel) (hrun : s.seq.requestCode = some code)
    (hwork : s.seq.work s.cfg = .command (convCommand ch)) : s.Moves none (s.convert ch) := by
  refine memWrite_moves hrun ?_ _
  exact fun e => (RegisterStep.converted (s := (s.transacted e).startConversion ch) ch hwork).moves rfl

theorem State.readSample_moves {s : State} {code : Nibble} (hrun : s.seq.requestCode = some code)
    (hwork : s.seq.work s.cfg = .command 0x00#8) : s.Moves none s.readSample := by
  refine memRead3_moves hrun (fun b0 b1 b2 e => ?_) _
  rcases ((s.transacted e).disturbSensor).storeSample_cases (sampleOfBytes b0 b1 b2) with
    ⟨hp, h⟩ | ⟨hp, h⟩ | ⟨hp, h⟩ <;> rw [h]
  · exact (RegisterStep.sampledD1 (s := (s.transacted e).disturbSensor) _ hwork hp).moves rfl
  · exact (RegisterStep.sampledD2 (s := (s.transacted e).disturbSensor) _ hwork hp).moves rfl
  · exact (RegisterStep.sampledNothing (s := (s.transacted e).disturbSensor) hwork hp).moves rfl

theorem validateStep_moves {s : State} (hpos : s.seq = .init .validate) : s.Moves none (validateStep s) := by
  have hrun : s.seq.requestCode = some 0x1#4 := by rw [hpos]; rfl
  rcases validateStep_cases s with ⟨hm, h⟩ | ⟨-, h⟩ <;> rw [h]
  · rw [State.finish_of_running (code := 0x1#4) _ _ (by exact hrun)]
    exact (RegisterStep.validated hpos hm).moves rfl
  · rw [State.raise, State.finish_of_running (code := 0x1#4) _ _ (by exact hrun)]
    exact (RegisterStep.rejected hpos).moves rfl

theorem computeTStep_moves {s : State} (hpos : s.seq = .readT .compute) : s.Moves none (computeTStep s) := by
  have hrun : s.seq.requestCode = some 0x2#4 := by rw [hpos]; rfl
  rw [computeTStep, State.finish_of_running _ _ hrun]
  exact (RegisterStep.computedT hpos).moves rfl

theorem computePStep_moves {s : State} (hpos : s.seq = .readP .compute) : s.Moves none (computePStep s) := by
  have hrun : s.seq.requestCode = some 0x3#4 := by rw [hpos]; rfl
  rw [computePStep, State.finish_of_running _ _ hrun]
  exact (RegisterStep.computedP hpos).moves rfl

/-- The CCB's own step, position by position. -/
theorem sequencerState_moves (s : State) : s.Moves none (sequencerState s) := by
  unfold sequencerState
  cases hpos : s.seq with
  | idle => exact RegisterStep.stay.moves rfl
  | init k =>
    have hrun : s.seq.requestCode = some 0x1#4 := by rw [hpos]; rfl
    cases k with
    | sensorReset =>
      refine State.memWrite_moves hrun ?_ _
      exact fun e => (RegisterStep.sensorReset (s := (s.transacted e).disturbSensor) hpos).moves rfl
    | resetWait => exact waitStep_moves _ (by rw [hpos]; rfl)
    | prom0 =>
      refine State.memRead2_moves hrun ?_ _
      exact fun b0 b1 e => (RegisterStep.promRead0 (s := s.transacted e) _ hpos).moves rfl
    | prom1 => exact promReadInto_moves .n1 hpos
    | prom2 => exact promReadInto_moves .n2 hpos
    | prom3 => exact promReadInto_moves .n3 hpos
    | prom4 => exact promReadInto_moves .n4 hpos
    | prom5 => exact promReadInto_moves .n5 hpos
    | prom6 => exact promReadInto_moves .n6 hpos
    | promCrc =>
      refine State.memRead2_moves hrun ?_ _
      exact fun b0 b1 e => (RegisterStep.promReadCrc (s := s.transacted e) b0 b1 hpos).moves rfl
    | validate => exact validateStep_moves hpos
  | readT k =>
    have hrun : s.seq.requestCode = some 0x2#4 := by rw [hpos]; rfl
    cases k with
    | conv => exact State.convert_moves _ hrun (by rw [hpos]; rfl)
    | convWait => exact waitStep_moves _ (by rw [hpos]; rfl)
    | adc => exact State.readSample_moves hrun (by rw [hpos]; rfl)
    | compute => exact computeTStep_moves hpos
  | readP k =>
    have hrun : s.seq.requestCode = some 0x3#4 := by rw [hpos]; rfl
    cases k with
    | conv1 | conv2 => exact State.convert_moves _ hrun (by rw [hpos]; rfl)
    | wait1 | wait2 => exact waitStep_moves _ (by rw [hpos]; rfl)
    | adc1 | adc2 => exact State.readSample_moves hrun (by rw [hpos]; rfl)
    | compute => exact computePStep_moves hpos

theorem State.startRead_moves {s : State} {code : Nibble} {first : SeqPos} (hidle : s.seq = .idle)
    (hread : code = 0x2#4 ∨ code = 0x3#4) (hfirst : first = .readT .conv ∨ first = .readP .conv1) :
    s.Moves (some code) (s.startRead code first) := by
  rcases s.startRead_cases code first with ⟨hv, h⟩ | ⟨-, h⟩ <;> rw [h]
  · exact (RegisterStep.readAccepted code first hidle hv hfirst).moves rfl
  · exact (RegisterStep.readRefused code hidle hread).moves rfl

/-- The acceptance of a code by the idle CCB. -/
theorem exec_decodeRequest_moves {s t : State} {code : Nibble} (hidle : s.seq = .idle)
    (h : exec (decodeRequest code) s = .next t) : s.Moves (some code) t := by
  rcases exec_decodeRequest_cases hidle code with ⟨hc, he⟩ | ⟨hc, he⟩ | ⟨hc, he⟩ | ⟨h1, h2, h3, he⟩ <;>
    obtain rfl := Host.Outcome.next.inj (he.symm.trans h)
  · subst hc; exact (RegisterStep.initAccepted hidle).moves rfl
  · subst hc; exact State.startRead_moves hidle (.inl rfl) (.inl rfl)
  · subst hc; exact State.startRead_moves hidle (.inr rfl) (.inr rfl)
  · exact (RegisterStep.illegal code hidle ⟨h1, h2, h3⟩).moves rfl

/-- What a step can do to the registers: the block reset, or one of the register steps; a code is accepted only from the
host's moves. -/
theorem step_moves {s t : State} (h : step s = .next t) :
    (∃ rest, s.host = .blockReset :: rest ∧ t = { s with host := rest }.blockReset) ∨
    (∃ accepted, s.Moves accepted t ∧ ∀ code, accepted = some code → ∃ rest, s.host = .request code :: rest) := by
  rcases step_cases s with ⟨-, he⟩ | ⟨rest, -, he⟩ | ⟨code, rest, hh, hidle, he⟩ | ⟨code, rest, -, -, he⟩ |
    ⟨rest, hh, he⟩ | ⟨rest, -, he⟩ | ⟨rest, -, -, he⟩ | ⟨rest, -, -, he⟩ <;> rw [he] at h
  case inr.inr.inl =>
    refine .inr ⟨some code, exec_decodeRequest_moves (s := { s with host := rest }) hidle h, ?_⟩
    rintro _ ⟨⟩
    exact ⟨rest, hh⟩
  all_goals cases h
  · exact .inr ⟨none, sequencerState_moves s, nofun⟩
  · exact .inr ⟨none, sequencerState_moves { s with host := rest }, nofun⟩
  · exact .inr ⟨none, sequencerState_moves s, nofun⟩
  · exact .inl ⟨rest, hh, rfl⟩
  · exact .inr ⟨none, RegisterStep.stay.moves rfl, nofun⟩
  · exact .inr ⟨none, RegisterStep.stay.moves rfl, nofun⟩

/-! How SEQ moves through the sequences (R171 to R173). -/

/-- A step of a sequence is followed by a step of the same request, or by IDLE. -/
theorem SeqPos.next_cases (p : Params) (q : SeqPos) :
    q.next p = .idle ∨ (∃ k k', q = .init k ∧ q.next p = .init k') ∨
    (∃ k k', q = .readT k ∧ q.next p = .readT k') ∨ (∃ k k', q = .readP k ∧ q.next p = .readP k') := by
  cases q with
  | idle => exact .inl rfl
  | init k =>
    cases hw : p.crcWordSet <;> cases k <;> simp [SeqPos.next, InitStep.next, hw]
  | readT k => cases k <;> simp [SeqPos.next, ReadTStep.next]
  | readP k => cases k <;> simp [SeqPos.next, ReadPStep.next]

/-- PROM_READ 0 has a place in INIT's sequence under DATASHEET8 only (R103). -/
theorem SeqPos.datasheet8_of_next_eq_prom0 {p : Params} {q : SeqPos} (h : q.next p = .init .prom0) :
    p.crcWordSet = .datasheet8 := by
  cases q with
  | idle => cases h
  | init k => cases hw : p.crcWordSet <;> cases k <;> simp [SeqPos.next, InitStep.next, hw] at h ⊢
  | readT k => cases k <;> cases h
  | readP k => cases k <;> cases h

/-- ADC_READ stands at three positions (R172, R173). -/
theorem SeqPos.eq_of_work_adcRead {p : Params} {q : SeqPos} (h : q.work p = .command 0x00#8) :
    q = .readT .adc ∨ q = .readP .adc1 ∨ q = .readP .adc2 := by
  cases q with
  | idle => cases h
  | init k => cases k <;> simp [SeqPos.work, InitStep.work] at h
  | readT k => cases k <;> simp [SeqPos.work, ReadTStep.work, convCommand] at h ⊢
  | readP k =>
    cases ho : p.pConvOrder <;> cases k <;>
      simp [SeqPos.work, ReadPStep.work, convCommand, firstChannel, secondChannel, ho] at h ⊢

theorem convCommand_injective {ch ch' : Channel} (h : convCommand ch = convCommand ch') : ch = ch' := by
  cases ch <;> cases ch' <;> simp [convCommand] at h ⊢

/-- A conversion command stands at three positions, each with its channel (R172, R173). -/
theorem SeqPos.eq_of_work_conversion {p : Params} {q : SeqPos} {ch : Channel}
    (h : q.work p = .command (convCommand ch)) :
    (q = .readT .conv ∧ ch = .temperature) ∨ (q = .readP .conv1 ∧ ch = firstChannel p.pConvOrder) ∨
    (q = .readP .conv2 ∧ ch = secondChannel p.pConvOrder) := by
  cases q with
  | idle => cases h
  | init k => cases ch <;> cases k <;> simp [SeqPos.work, InitStep.work, convCommand] at h
  | readT k =>
    cases k with
    | conv => exact .inl ⟨rfl, (convCommand_injective (SeqWork.command.inj h)).symm⟩
    | adc => cases ch <;> cases h
    | convWait | compute => cases h
  | readP k =>
    cases k with
    | conv1 => exact .inr (.inl ⟨rfl, (convCommand_injective (SeqWork.command.inj h)).symm⟩)
    | conv2 => exact .inr (.inr ⟨rfl, (convCommand_injective (SeqWork.command.inj h)).symm⟩)
    | adc1 | adc2 => cases ch <;> cases h
    | wait1 | wait2 | compute => cases h

/-- A request that goes on keeps the value of VALID it needs (R29). -/
theorem validAt_next {valid : Bool} {q : SeqPos} (p : Params) (h : validAt valid q) : validAt valid (q.next p) := by
  rcases q.next_cases p with hn | ⟨k, k', rfl, hn⟩ | ⟨k, k', rfl, hn⟩ | ⟨k, k', rfl, hn⟩ <;> rw [hn]
  · trivial
  all_goals exact h

/-- Within INIT nothing is asked of PEND. -/
theorem pendAt_next_of_init (p : Params) (pend : Pend) (k : InitStep) :
    pendAt p.pConvOrder pend (SeqPos.next p (.init k)) := by
  rcases SeqPos.next_cases p (.init k) with hn | ⟨_, k', -, hn⟩ | ⟨_, _, ⟨⟩, -⟩ | ⟨_, _, ⟨⟩, -⟩ <;> rw [hn] <;> trivial

/-- A wait keeps the channel that PEND names (R27). -/
theorem pendAt_next_of_wait {p : Params} {pend : Pend} {q : SeqPos} {ms : Nat} (hw : q.work p = .wait ms)
    (h : pendAt p.pConvOrder pend q) : pendAt p.pConvOrder pend (q.next p) := by
  cases q with
  | idle => cases hw
  | init k => exact pendAt_next_of_init p pend k
  | readT k =>
    cases k with
    | convWait => exact h
    | conv | adc | compute => cases hw
  | readP k =>
    cases k with
    | wait1 | wait2 => exact h
    | conv1 | conv2 | adc1 | adc2 | compute => cases hw

/-- A conversion command makes PEND name the conversion that is read next (R27). -/
theorem pendAt_next_of_conversion {p : Params} {q : SeqPos} {ch : Channel}
    (hw : q.work p = .command (convCommand ch)) : pendAt p.pConvOrder (Pend.ofChannel ch) (q.next p) := by
  rcases SeqPos.eq_of_work_conversion hw with ⟨rfl, rfl⟩ | ⟨rfl, rfl⟩ | ⟨rfl, rfl⟩ <;> rfl

/-- After a sample is read nothing is asked of PEND (R125). -/
theorem pendAt_next_of_adcRead {p : Params} {q : SeqPos} (pend : Pend) (hw : q.work p = .command 0x00#8) :
    pendAt p.pConvOrder pend (q.next p) := by
  rcases SeqPos.eq_of_work_adcRead hw with rfl | rfl | rfl <;> trivial

/-! The invariant of the machine. -/

/-- The invariant's clauses about the calibration registers. -/
structure State.CalibrationInv (s : State) : Prop where
  validated : s.valid = true → s.imageCrc = s.crcStored ∧ s.crcCalc = s.crcStored
  stored : s.crcStored = s.w7.extractLsb' 0 4
  w0Doc7 : s.cfg.crcWordSet = .doc7 → s.w0 = 0#16

/-- The invariant's clauses about all registers but SEQ and the timer. -/
structure State.RegistersInv (s : State) : Prop extends s.CalibrationInv where
  statusLegal : s.lastStatus ≤ 5#3
  statusFits : statusFitsRequest s.lastStatus s.lastReq
  resultZero : s.result = 0#32 ∨ (s.lastStatus = Status.ok.code ∧ (s.lastReq = 0x2#4 ∨ s.lastReq = 0x3#4))

theorem State.Inv.registers {s : State} (h : s.Inv) : s.RegistersInv where
  validated := h.validated
  stored := h.stored
  w0Doc7 := h.w0Doc7
  statusLegal := h.statusLegal
  statusFits := h.statusFits
  resultZero := h.resultZero

theorem State.Inv.not_valid {s : State} (h : s.Inv) {k : InitStep} (hpos : s.seq = .init k) : s.valid = false := by
  have hv := h.validSeq; rw [hpos] at hv; exact hv

/-- Moving SEQ meets the invariant when VALID, PEND and the word set fit the new position. -/
theorem State.RegistersInv.goto {s : State} (h : s.RegistersInv) {q : SeqPos} (hvalid : validAt s.valid q)
    (hpend : pendAt s.cfg.pConvOrder s.pend q) (hprom0 : q = .init .prom0 → s.cfg.crcWordSet = .datasheet8) :
    (s.goto q).Inv where
  validated := h.validated
  stored := h.stored
  validSeq := hvalid
  pendSeq := hpend
  prom0Seq := hprom0
  w0Doc7 := h.w0Doc7
  statusLegal := h.statusLegal
  statusFits := h.statusFits
  resultZero := h.resultZero
  timerSeq := rfl

/-- SEQ advancing meets the invariant when VALID fits the old position and PEND the new one. -/
theorem State.RegistersInv.advance {s : State} (h : s.RegistersInv) (hvalid : validAt s.valid s.seq)
    (hpend : pendAt s.cfg.pConvOrder s.pend (s.seq.next s.cfg)) : s.advance.Inv :=
  h.goto (validAt_next s.cfg hvalid) hpend SeqPos.datasheet8_of_next_eq_prom0

/-- The same within INIT, where VALID is 0 and nothing is asked of PEND. -/
theorem State.RegistersInv.advance_init {s : State} (h : s.RegistersInv) {k : InitStep} (hpos : s.seq = .init k)
    (hvalid : s.valid = false) : s.advance.Inv :=
  h.advance (by rw [hpos]; exact hvalid) (by rw [hpos]; exact pendAt_next_of_init _ _ k)

theorem Status.code_le (st : Status) : st.code ≤ 5#3 := by
  cases st <;> decide

/-- A completion record meets the invariant when its status fits the request and its value the status. -/
theorem State.CalibrationInv.complete {s : State} (h : s.CalibrationInv) {code : Nibble} {st : Status} {v : Int}
    (hfits : statusFitsRequest st.code code) (hresult : v = 0 ∨ (st = .ok ∧ (code = 0x2#4 ∨ code = 0x3#4))) :
    (s.complete code st v).Inv where
  validated := h.validated
  stored := h.stored
  validSeq := trivial
  pendSeq := trivial
  prom0Seq := nofun
  w0Doc7 := h.w0Doc7
  statusLegal := st.code_le
  statusFits := hfits
  resultZero := hresult.imp (fun hv => by rw [complete_result, hv]; rfl)
    (fun ⟨hst, hc⟩ => ⟨congrArg Status.code hst, hc⟩)
  timerSeq := rfl

/-- The checksum slot's second byte holds the stored checksum (R57). -/
theorem checksumOfByte_eq (b0 b1 : Byte) : checksumOfByte b1 = (wordOfBytes b0 b1).extractLsb' 0 4 := by
  rw [checksumOfByte, wordOfBytes, BitVec.extractLsb'_append_eq_of_add_le (by decide)]

theorem SeqPos.requestCode_cases {q : SeqPos} {code : Nibble} (h : q.requestCode = some code) :
    code = 0x1#4 ∨ code = 0x2#4 ∨ code = 0x3#4 := by
  cases q <;> cases h <;> decide

/-- Every reserved code is one that ILLEGAL_REQUEST belongs to (R200). -/
theorem reserved_code (code : Nibble) (h : code ≠ 0x1#4 ∧ code ≠ 0x2#4 ∧ code ≠ 0x3#4) :
    code = 0x0#4 ∨ 0x4#4 ≤ code := by
  revert code; decide

/-- A register step keeps the invariant. -/
theorem RegisterStep.inv {s t : State} {accepted : Option Nibble} (hstep : RegisterStep s accepted t) (h : s.Inv) :
    t.Inv := by
  have hreg := h.registers
  cases hstep with
  | stay => exact h
  | initAccepted =>
    have hnew : State.RegistersInv { s with valid := false, crcHeld := s.crcStored } :=
      { hreg with validated := nofun }
    exact hnew.goto rfl trivial nofun
  | readAccepted code first idle valid start =>
    rcases start with rfl | rfl <;> exact hreg.goto valid trivial nofun
  | readRefused code idle read =>
    refine hreg.toCalibrationInv.complete ?_ (.inl rfl)
    rcases read with rfl | rfl <;> decide
  | illegal code idle reserved =>
    have hfits : statusFitsRequest Status.illegalRequest.code code :=
      ⟨nofun, nofun, nofun, nofun, nofun, fun _ => reserved_code code reserved⟩
    exact hreg.toCalibrationInv.complete hfits (.inl rfl)
  | failed code running =>
    refine hreg.toCalibrationInv.complete ?_ (.inl rfl)
    rcases SeqPos.requestCode_cases running with rfl | rfl | rfl <;> decide
  | sensorReset pos =>
    have hnew : State.RegistersInv { s with pend := .none } := { hreg with }
    exact hnew.advance_init pos (h.not_valid pos)
  | promRead0 w pos =>
    have hd8 := h.prom0Seq pos
    have hnew : State.RegistersInv { s with w0 := w } :=
      { hreg with
        validated := fun hv => absurd hv (by simp [h.not_valid pos])
        w0Doc7 := fun hd7 => absurd (hd7.symm.trans hd8) nofun }
    exact hnew.advance_init pos (h.not_valid pos)
  | promRead n w pos =>
    obtain ⟨k, hk⟩ : ∃ k, n.position = .init k := by cases n <;> exact ⟨_, rfl⟩
    have hpos := pos.trans hk
    have hnew : State.RegistersInv { s with c := s.c.set w n } :=
      { hreg with validated := fun hv => absurd hv (by simp [h.not_valid hpos]) }
    exact hnew.advance_init hpos (h.not_valid hpos)
  | promReadCrc b0 b1 pos =>
    have hnew : State.RegistersInv { s with w7 := wordOfBytes b0 b1, crcStored := checksumOfByte b1 } :=
      { hreg with
        validated := fun hv => absurd hv (by simp [h.not_valid pos])
        stored := checksumOfByte_eq b0 b1 }
    exact hnew.advance_init pos (h.not_valid pos)
  | validated pos matched =>
    have hnew : State.CalibrationInv { s with crcCalc := s.imageCrc, valid := true } :=
      { hreg.toCalibrationInv with validated := fun _ => ⟨matched, matched⟩ }
    exact hnew.complete (by decide) (.inl rfl)
  | rejected pos =>
    have hnew : State.CalibrationInv { s with crcCalc := s.imageCrc } :=
      { hreg.toCalibrationInv with validated := fun hv => absurd hv (by simp [h.not_valid pos]) }
    exact hnew.complete (by decide) (.inl rfl)
  | waited ms work => exact hreg.advance h.validSeq (pendAt_next_of_wait work h.pendSeq)
  | converted ch work =>
    have hnew : State.RegistersInv { s with pend := Pend.ofChannel ch } := { hreg with }
    exact hnew.advance h.validSeq (pendAt_next_of_conversion work)
  | sampledD1 v work pend =>
    have hnew : State.RegistersInv { s with d1 := v, pend := .none } := { hreg with }
    exact hnew.advance h.validSeq (pendAt_next_of_adcRead _ work)
  | sampledD2 v work pend =>
    have hnew : State.RegistersInv { s with d2 := v, pend := .none } := { hreg with }
    exact hnew.advance h.validSeq (pendAt_next_of_adcRead _ work)
  | sampledNothing work pend =>
    have hnew : State.RegistersInv { s with pend := .none } := { hreg with }
    exact hnew.advance h.validSeq (pendAt_next_of_adcRead _ work)
  | computedT pos => exact hreg.toCalibrationInv.complete (by decide) (.inr ⟨rfl, .inl rfl⟩)
  | computedP pos => exact hreg.toCalibrationInv.complete (by decide) (.inr ⟨rfl, .inr rfl⟩)

theorem State.Moves.inv {s t : State} {accepted : Option Nibble} (hmoves : s.Moves accepted t) (h : s.Inv) : t.Inv := by
  obtain ⟨e, hstep⟩ := hmoves
  exact hstep.inv (h.within e)

/-- Registers at their reset values meet the invariant, whatever the parameters and the surroundings. -/
theorem State.blockReset_inv (s : State) : s.blockReset.Inv where
  validated := nofun
  stored := rfl
  validSeq := trivial
  pendSeq := trivial
  prom0Seq := nofun
  w0Doc7 := fun _ => rfl
  statusLegal := by change (0#3 : BitVec 3) ≤ 5#3; decide
  statusFits := by change statusFitsRequest 0#3 0#4; decide
  resultZero := .inl rfl
  timerSeq := rfl

/-- Settles O52: the registers at reset are those the block reset gives. -/
theorem resetMeetsTheInvariant : Obligations.ResetMeetsTheInvariant :=
  State.reset.blockReset_inv.within State.reset.surroundings

/-- Settles O53: the block reset meets the invariant anew, and every register step keeps it. -/
theorem stepKeepsTheInvariant : Obligations.StepKeepsTheInvariant := by
  intro s t h hstep
  rcases step_moves hstep with ⟨rest, -, rfl⟩ | ⟨accepted, hmoves, -⟩
  · exact State.blockReset_inv _
  · exact hmoves.inv h

/-! What a step answers and what the host sees of it. -/

/-- Only the computation that ends a read answers it with OK (R172, R173). -/
theorem RegisterStep.ok_reading {s t : State} {accepted : Option Nibble} {r : Response}
    (hstep : RegisterStep s accepted t) (hresp : t.responses = s.responses ++ [r]) (hok : r.status = .ok)
    (hread : r.code = 0x2#4 ∨ r.code = 0x3#4) :
    (s.seq = .readT .compute ∧ r = ⟨0x2#4, .ok, BitVec.ofInt 32 (compT s.c s.d2)⟩) ∨
    (s.seq = .readP .compute ∧ r = ⟨0x3#4, .ok, BitVec.ofInt 32 (compP s.c s.d1 s.d2)⟩) := by
  cases hstep with
  | computedT pos => exact .inl ⟨pos, by simpa using hresp.symm⟩
  | computedP pos => exact .inr ⟨pos, by simpa using hresp.symm⟩
  | validated pos matched =>
    obtain rfl : _ = r := by simpa using hresp
    exact absurd hread (by decide)
  | readRefused | illegal | failed | rejected =>
    obtain rfl : _ = r := by simpa using hresp
    cases hok
  | _ => exact absurd hresp.symm (by simp)

/-- A read runs only over a set whose checksum matches the stored one (R29). -/
theorem State.Inv.checksum_matches {s : State} (h : s.Inv) (hv : s.valid = true) :
    crc4 (crcWordList s.cfg.crcWordSet s.w0 s.c s.w7) s.cfg.crcFinalXor = s.w7.extractLsb' 0 4 :=
  (h.validated hv).1.trans h.stored

/-- Settles O54: such an answer comes from the last step of a read, where the invariant has VALID = 1. -/
theorem noReadingWithoutValidation : Obligations.NoReadingWithoutValidation := by
  intro s t r h hstep hresp hok hread
  rcases step_moves hstep with ⟨rest, -, rfl⟩ | ⟨accepted, ⟨e, hmove⟩, -⟩
  · exact absurd hresp (by simp)
  have hseq := h.validSeq
  rcases hmove.ok_reading hresp hok hread with ⟨pos, rfl⟩ | ⟨pos, rfl⟩ <;>
    rw [show s.seq = _ from pos] at hseq
  · exact ⟨hseq, h.checksum_matches hseq, fun _ => rfl, nofun⟩
  · exact ⟨hseq, h.checksum_matches hseq, nofun, fun _ => rfl⟩

/-- SEQ advancing within a request leaves what STATUS shows of CRC_STORED (R32; log 3). -/
theorem State.shownCrcStored_advance {s : State} (hbusy : s.advance.seq ≠ .idle) :
    s.advance.shownCrcStored = s.shownCrcStored := by
  rw [advance_seq] at hbusy
  rcases s.seq.next_cases s.cfg with hn | ⟨k, k', hq, hn⟩ | ⟨k, k', hq, hn⟩ | ⟨k, k', hq, hn⟩
  · exact absurd hn hbusy
  · rw [shownCrcStored_of_init hq]
    exact shownCrcStored_of_init (s := s.advance) hn
  all_goals
    rw [shownCrcStored_of_not_init (s := s) (by simp [hq])]
    exact shownCrcStored_of_not_init (s := s.advance) (by simp [hn])

/-- What the host sees of the previous request (R32): the STATUS fields other than BUSY and VALID, and RESULT. -/
def State.SameRecord (s t : State) : Prop :=
  t.lastStatus = s.lastStatus ∧ t.shownCrcStored = s.shownCrcStored ∧ t.crcCalc = s.crcCalc ∧ t.lastReq = s.lastReq ∧
  t.result = s.result

/-- A step after which the CCB is busy writes nothing of the previous request's record. -/
theorem RegisterStep.sameRecord {s t : State} {accepted : Option Nibble} (hstep : RegisterStep s accepted t)
    (hbusy : t.seq ≠ .idle) : s.SameRecord t := by
  cases hstep with
  | stay => exact ⟨rfl, rfl, rfl, rfl, rfl⟩
  | initAccepted idle =>
    have hshown : s.shownCrcStored = s.crcStored := State.shownCrcStored_of_not_init (by simp [idle])
    exact ⟨rfl, hshown.symm, rfl, rfl, rfl⟩
  | readAccepted code first idle valid start =>
    have hshown : s.shownCrcStored = s.crcStored := State.shownCrcStored_of_not_init (by simp [idle])
    rcases start with rfl | rfl <;> exact ⟨rfl, hshown.symm, rfl, rfl, rfl⟩
  | promReadCrc b0 b1 pos =>
    refine ⟨rfl, (State.shownCrcStored_advance hbusy).trans ?_, rfl, rfl, rfl⟩
    rw [State.shownCrcStored_of_init pos]
    exact State.shownCrcStored_of_init pos
  | readRefused | illegal | failed | validated | rejected | computedT | computedP => exact absurd rfl hbusy
  | _ => exact ⟨rfl, State.shownCrcStored_advance hbusy, rfl, rfl, rfl⟩

/-- Settles O50: field by field, and VALID by the invariant after the step. -/
theorem statusShowsThePreviousRequestWhileBusy : Obligations.StatusShowsThePreviousRequestWhileBusy := by
  intro s t hstep hbusy
  rcases step_moves hstep with ⟨rest, -, rfl⟩ | ⟨accepted, ⟨e, hmove⟩, -⟩
  · exact absurd rfl hbusy
  obtain ⟨hstatus, hstored, hcalc, hreq, hresult⟩ := hmove.sameRecord hbusy
  simp only [State.statusWord_lastStatus, State.statusWord_crcStored, State.statusWord_crcCalc,
    State.statusWord_lastReq, State.statusWord_valid]
  exact ⟨hstatus, hstored, hcalc, hreq, hresult, fun h k hk => (stepKeepsTheInvariant s t h hstep).not_valid hk⟩

/-! The writers of each register (R38). -/

section Writers

variable {s t : State} {accepted : Option Nibble} (hstep : RegisterStep s accepted t)
include hstep

theorem RegisterStep.writer_c {n : CalIndex} (h : t.c.get n ≠ s.c.get n) : s.seq = n.position := by
  cases hstep with
  | promRead m w pos =>
    by_cases hnm : n = m
    · rw [hnm, pos]
    · exact absurd (Calib.get_set_of_ne _ _ hnm) h
  | _ => exact absurd rfl h

theorem RegisterStep.writer_w7 (h : t.w7 ≠ s.w7 ∨ t.crcStored ≠ s.crcStored) : s.seq = .init .promCrc := by
  cases hstep with
  | promReadCrc b0 b1 pos => exact pos
  | _ => exact absurd h (not_or.mpr ⟨not_not.mpr rfl, not_not.mpr rfl⟩)

theorem RegisterStep.writer_crcCalc (h : t.crcCalc ≠ s.crcCalc) : s.seq = .init .validate := by
  cases hstep with
  | validated pos | rejected pos => exact pos
  | _ => exact absurd rfl h

theorem RegisterStep.writer_w0 (h : t.w0 ≠ s.w0) : s.seq = .init .prom0 := by
  cases hstep with
  | promRead0 w pos => exact pos
  | _ => exact absurd rfl h

theorem RegisterStep.writer_valid (h : t.valid ≠ s.valid) :
    (s.seq = .init .validate ∧ t.valid = true) ∨
    (s.seq = .idle ∧ t.seq = .init .sensorReset ∧ t.valid = false ∧ accepted = some 0x1#4) := by
  cases hstep with
  | validated pos => exact .inl ⟨pos, rfl⟩
  | initAccepted idle => exact .inr ⟨idle, rfl, rfl, rfl⟩
  | _ => exact absurd rfl h

/-- PEND is what tells READ_T's sample from a pressure sample (R27). -/
theorem RegisterStep.writer_d1 (hinv : s.Inv) (h : t.d1 ≠ s.d1) : ∃ k, s.seq = .readP k := by
  cases hstep with
  | sampledD1 v work pend =>
    rcases SeqPos.eq_of_work_adcRead work with hpos | hpos | hpos
    · have hpend := hinv.pendSeq
      rw [hpos] at hpend
      exact absurd (pend.symm.trans hpend) nofun
    · exact ⟨_, hpos⟩
    · exact ⟨_, hpos⟩
  | _ => exact absurd rfl h

theorem RegisterStep.writer_d2 (h : t.d2 ≠ s.d2) : (∃ k, s.seq = .readT k) ∨ ∃ k, s.seq = .readP k := by
  cases hstep with
  | sampledD2 v work pend =>
    rcases SeqPos.eq_of_work_adcRead work with hpos | hpos | hpos
    · exact .inl ⟨_, hpos⟩
    · exact .inr ⟨_, hpos⟩
    · exact .inr ⟨_, hpos⟩
  | _ => exact absurd rfl h

theorem RegisterStep.writer_pend (h : t.pend ≠ s.pend) : s.seq ≠ .idle := by
  cases hstep with
  | sensorReset pos => simp [pos]
  | converted ch work | sampledD1 v work | sampledD2 v work | sampledNothing work =>
    intro hidle; rw [hidle] at work; cases work
  | _ => exact absurd rfl h

theorem RegisterStep.writer_record (h : t.result ≠ s.result ∨ t.lastStatus ≠ s.lastStatus ∨ t.lastReq ≠ s.lastReq) :
    t.responses ≠ s.responses := by
  cases hstep with
  | readRefused | illegal | failed | validated | rejected | computedT | computedP => simp
  | _ => exact absurd h (not_or.mpr ⟨not_not.mpr rfl, not_or.mpr ⟨not_not.mpr rfl, not_not.mpr rfl⟩⟩)

end Writers

/-- Settles O56: each register by its own writer. -/
theorem writersOfEachRegister : Obligations.WritersOfEachRegister := by
  intro s t hinv hstep hreset
  rcases step_moves hstep with ⟨rest, hh, -⟩ | ⟨accepted, ⟨e, hmove⟩, hhost⟩
  · exact absurd hh (hreset rest)
  refine ⟨hmove.writer_c (n := .n1), hmove.writer_c (n := .n2), hmove.writer_c (n := .n3), hmove.writer_c (n := .n4),
    hmove.writer_c (n := .n5), hmove.writer_c (n := .n6), hmove.writer_w7, hmove.writer_crcCalc, ?_, ?_,
    hmove.writer_d1 (hinv.within e), hmove.writer_d2, hmove.writer_pend, hmove.writer_record⟩
  · intro h
    have hpos := hmove.writer_w0 h
    exact ⟨hpos, hinv.prom0Seq hpos⟩
  · intro h
    refine (hmove.writer_valid h).imp_right ?_
    rintro ⟨hidle, hinit, hclear, hcode⟩
    exact ⟨hidle, hinit, hclear, hhost _ hcode⟩

/-! The step at a position of SEQ, and the status read. -/

theorem runSequencer_of_command {s : State} {cmd : Byte} {i : Instr} (hwork : s.seq.work s.cfg = .command cmd)
    (hdecode : decode (.command cmd) = .ok i) : runSequencer s = exec i s := by
  simp only [runSequencer, hwork, issueCommand, hdecode]

theorem runSequencer_of_wait {s : State} {ms : Nat} (hwork : s.seq.work s.cfg = .wait ms) :
    runSequencer s = .next (waitStep ms s) := by
  simp only [runSequencer, hwork]

/-- Settles O7: with the host idle, with a quiet head, and at an acceptance. -/
theorem stepRunsDecodedInstruction : Obligations.StepRunsDecodedInstruction := by
  refine ⟨fun s cmd i hh hwork hd => ?_, fun s rest cmd i hh hwork hd => ?_, fun s rest code i hh hidle hd => ?_⟩
  · rw [← runSequencer_of_command hwork hd]
    simp only [step, stepWithHost, hh]
  · rw [← runSequencer_of_command (s := { s with host := rest }) hwork hd]
    simp only [step, stepWithHost, hh]
  · obtain rfl : decodeRequest code = i := Except.ok.inj hd
    simp only [step, stepWithHost, hh, hidle, if_true, takeRequest]

/-- Settles O9: the CCB's own step at a wait. -/
theorem waitOnlyAdvancesTheSequencer : Obligations.WaitOnlyAdvancesTheSequencer := by
  intro s ms hh hwork
  calc step s = runSequencer s := by simp only [step, stepWithHost, hh]
    _ = .next (waitStep ms s) := runSequencer_of_wait hwork

/-- Settles O51: the status read is a step of its own, at any position of SEQ. -/
theorem statusReadChangesNothing : Obligations.StatusReadChangesNothing := by
  intro s rest hh
  simp only [step, stepWithHost, hh]
  rfl

/-- Settles O47: the reset state and the default parameters, field by field. -/
theorem resetRegisters : Obligations.ResetRegisters :=
  ⟨⟨rfl, rfl, rfl, rfl, rfl, rfl, rfl, rfl, rfl, rfl, rfl, rfl, rfl⟩, rfl, rfl, rfl, rfl⟩

end Sys2Proof.Machine
end

section
/-! PROOFS. The family '10_state.md': no request reads a sample of an earlier request (R26, R124). Two states that differ
only in samples which are written again before they are read stay so, step by step. -/

namespace Sys2Proof.Machine

/-! When a sample is still to be read before it is written again. -/

/-- The positions of SEQ between the ADC_READ of a channel and the computation that uses its sample (R172, R173). -/
def sampleLive (order : ConvOrder) (ch : Channel) : SeqPos → Prop
  | .readT .compute => ch = .temperature
  | .readP .conv2 | .readP .wait2 | .readP .adc2 => ch = firstChannel order
  | .readP .compute => True
  | _ => False

/-- Only an ADC_READ makes a sample live. -/
theorem sampleLive_of_next {p : Params} {q : SeqPos} {ch : Channel} (hwork : q.work p ≠ .command 0x00#8)
    (h : sampleLive p.pConvOrder ch (q.next p)) : sampleLive p.pConvOrder ch q := by
  cases q with
  | idle => exact h
  | init k =>
    rcases SeqPos.next_cases p (.init k) with hn | ⟨_, _, -, hn⟩ | ⟨_, _, ⟨⟩, -⟩ | ⟨_, _, ⟨⟩, -⟩ <;>
      rw [hn] at h <;> exact h.elim
  | readT k =>
    cases k with
    | conv | convWait | compute => exact h.elim
    | adc => exact absurd rfl hwork
  | readP k =>
    cases k with
    | conv1 | wait1 | compute => exact h.elim
    | conv2 | wait2 => exact h
    | adc1 | adc2 => exact absurd rfl hwork

/-- After an ADC_READ the sample that is live is the one PEND named, or one that was live before. -/
theorem sampleLive_of_next_adcRead {p : Params} {q : SeqPos} {pend : Pend} {ch : Channel}
    (hwork : q.work p = .command 0x00#8) (hpend : pendAt p.pConvOrder pend q)
    (h : sampleLive p.pConvOrder ch (q.next p)) : pend = Pend.ofChannel ch ∨ sampleLive p.pConvOrder ch q := by
  rcases SeqPos.eq_of_work_adcRead hwork with rfl | rfl | rfl
  · obtain rfl : ch = .temperature := h
    exact .inl hpend
  · obtain rfl : ch = firstChannel p.pConvOrder := h
    exact .inl hpend
  · have hsecond : pend = Pend.ofChannel (secondChannel p.pConvOrder) := hpend
    change pend = _ ∨ ch = firstChannel p.pConvOrder
    cases ho : p.pConvOrder <;> cases ch <;> simp [hsecond, firstChannel, secondChannel, ho]

/-- The samples `a` and `b` are those of the state wherever they are live at this position. -/
def State.LiveAt (q : SeqPos) (a b : Sample) (s : State) : Prop :=
  (sampleLive s.cfg.pConvOrder .pressure q → a = s.d1) ∧ (sampleLive s.cfg.pConvOrder .temperature q → b = s.d2)

/-- The states agree on everything but samples that are not live at their position of SEQ. -/
def State.Agrees (s t : State) : Prop :=
  ∃ a b, t = s.withSamples a b ∧ s.LiveAt s.seq a b

theorem State.Agrees.refl (s : State) : s.Agrees s :=
  ⟨s.d1, s.d2, rfl, fun _ => rfl, fun _ => rfl⟩

theorem State.liveAt_idle (a b : Sample) (s : State) : s.LiveAt .idle a b :=
  ⟨False.elim, False.elim⟩

theorem State.LiveAt.next {s : State} {a b : Sample} (h : s.LiveAt s.seq a b)
    (hwork : s.seq.work s.cfg ≠ .command 0x00#8) : s.LiveAt (s.seq.next s.cfg) a b :=
  ⟨fun hl => h.1 (sampleLive_of_next hwork hl), fun hl => h.2 (sampleLive_of_next hwork hl)⟩

/-- A step that reads no sample makes none live. -/
theorem RegisterStep.liveAt {s t : State} {accepted : Option Nibble} {a b : Sample}
    (hstep : RegisterStep s accepted t) (h : s.LiveAt s.seq a b) (hwork : s.seq.work s.cfg ≠ .command 0x00#8) :
    t.LiveAt t.seq a b := by
  cases hstep with
  | stay => exact h
  | initAccepted => exact ⟨False.elim, False.elim⟩
  | readAccepted code first idle valid start => rcases start with rfl | rfl <;> exact ⟨False.elim, False.elim⟩
  | sampledD1 v work | sampledD2 v work | sampledNothing work => exact absurd work hwork
  | readRefused | illegal | failed | validated | rejected | computedT | computedP => exact State.liveAt_idle _ _ _
  | _ => exact h.next hwork

/-! The operations that do not look at D1 and D2. -/

/-- The operation neither reads nor writes D1 and D2. -/
def SampleBlind (f : State → State) : Prop :=
  ∀ (s : State) (a b : Sample), f (s.withSamples a b) = (f s).withSamples a b

theorem State.finish_blind (st : Status) (v : Int) : SampleBlind (State.finish st v) := by
  intro s a b
  rcases s.finish_cases st v with ⟨hidle, h⟩ | ⟨code, hrun, h⟩ <;> rw [h]
  · exact finish_of_idle st v hidle
  · exact finish_of_running st v hrun

theorem State.raise_blind (st : Status) : SampleBlind (State.raise st) :=
  finish_blind st 0

theorem State.memWrite_blind {f : State → State} (hf : SampleBlind f) (cmd : Byte) :
    SampleBlind (State.memWrite cmd f) := by
  intro s a b
  rcases s.busAnswer_cases cmd with h | ⟨b0, b1, b2, h⟩
  · rw [memWrite_of_error f h, memWrite_of_error f (s := s.withSamples a b) h]
    exact raise_blind _ (s.transacted _).disturbSensor a b
  · rw [memWrite_of_ok f h, memWrite_of_ok f (s := s.withSamples a b) h]
    exact congrArg State.advance (hf (s.transacted _) a b)

theorem State.memRead2_blind {f : Byte → Byte → State → State} (hf : ∀ b0 b1, SampleBlind (f b0 b1)) (cmd : Byte) :
    SampleBlind (State.memRead2 cmd f) := by
  intro s a b
  rcases s.busAnswer_cases cmd with h | ⟨b0, b1, b2, h⟩
  · rw [memRead2_of_error f h, memRead2_of_error f (s := s.withSamples a b) h]
    exact raise_blind _ (s.transacted _) a b
  · rw [memRead2_of_ok f h, memRead2_of_ok f (s := s.withSamples a b) h]
    exact congrArg State.advance (hf b0 b1 (s.transacted _) a b)

theorem waitStep_blind (ms : Nat) : SampleBlind (waitStep ms) :=
  fun _ _ _ => rfl

theorem promReadInto_blind (n : CalIndex) : SampleBlind (promReadInto n) :=
  State.memRead2_blind (fun _ _ _ _ _ => rfl) _

theorem State.convert_blind (ch : Channel) : SampleBlind (State.convert ch) :=
  State.memWrite_blind (fun _ _ _ => rfl) _

theorem validateStep_blind : SampleBlind validateStep := by
  intro s a b
  rcases validateStep_cases s with ⟨hm, h⟩ | ⟨hm, h⟩ <;>
    rcases validateStep_cases (s.withSamples a b) with ⟨hm', h'⟩ | ⟨hm', h'⟩ <;> rw [h, h']
  · exact State.finish_blind _ _ { s with crcCalc := s.imageCrc, valid := true } a b
  · exact absurd hm hm'
  · exact absurd hm' hm
  · exact State.raise_blind _ { s with crcCalc := s.imageCrc } a b

theorem State.startRead_blind (code : Nibble) (first : SeqPos) : SampleBlind (State.startRead code first) := by
  intro s a b
  rcases s.startRead_cases code first with ⟨hv, h⟩ | ⟨hv, h⟩ <;> rw [h]
  · exact if_pos hv
  · exact if_neg (by rw [Bool.not_eq_true]; exact hv)

/-- Away from the ADC_READs the CCB's own step reads no sample that is not live. -/
theorem sequencerState_withSamples {s : State} {a b : Sample} (hlive : s.LiveAt s.seq a b)
    (hwork : s.seq.work s.cfg ≠ .command 0x00#8) :
    sequencerState (s.withSamples a b) = (sequencerState s).withSamples a b := by
  obtain ⟨hd1, hd2⟩ := hlive
  unfold sequencerState
  rw [show (s.withSamples a b).seq = s.seq from rfl]
  cases hpos : s.seq with
  | idle => rfl
  | init k =>
    cases k with
    | sensorReset => exact State.memWrite_blind (fun _ _ _ => rfl) _ s a b
    | resetWait => exact waitStep_blind _ s a b
    | prom0 | promCrc => exact State.memRead2_blind (fun _ _ _ _ _ => rfl) _ s a b
    | prom1 | prom2 | prom3 | prom4 | prom5 | prom6 => exact promReadInto_blind _ s a b
    | validate => exact validateStep_blind s a b
  | readT k =>
    rw [hpos] at hd2 hwork
    cases k with
    | conv => exact State.convert_blind _ s a b
    | convWait => exact waitStep_blind _ s a b
    | adc => exact absurd rfl hwork
    | compute =>
      obtain rfl : b = s.d2 := hd2 rfl
      exact State.finish_blind _ _ s a s.d2
  | readP k =>
    rw [hpos] at hd1 hd2 hwork
    cases k with
    | conv1 | conv2 => exact State.convert_blind _ s a b
    | wait1 | wait2 => exact waitStep_blind _ s a b
    | adc1 | adc2 => exact absurd rfl hwork
    | compute =>
      obtain rfl : a = s.d1 := hd1 trivial
      obtain rfl : b = s.d2 := hd2 trivial
      exact State.finish_blind _ _ s s.d1 s.d2

/-! A step, and a run, of two states that agree. -/

/-- A sample read makes the two states agree on it; one live before it is the same already. -/
theorem State.storeSample_agrees {s : State} {a b : Sample} (v : Sample) (hlive : s.LiveAt s.seq a b)
    (hwork : s.seq.work s.cfg = .command 0x00#8) (hpend : pendAt s.cfg.pConvOrder s.pend s.seq) :
    (s.storeSample v).advance.Agrees ((s.withSamples a b).storeSample v).advance := by
  have hd1 : sampleLive s.cfg.pConvOrder .pressure (s.seq.next s.cfg) → s.pend = .pressure ∨ a = s.d1 :=
    fun hl => (sampleLive_of_next_adcRead hwork hpend hl).imp_right hlive.1
  have hd2 : sampleLive s.cfg.pConvOrder .temperature (s.seq.next s.cfg) → s.pend = .temperature ∨ b = s.d2 :=
    fun hl => (sampleLive_of_next_adcRead hwork hpend hl).imp_right hlive.2
  unfold State.storeSample
  rw [show (s.withSamples a b).pend = s.pend from rfl]
  cases hp : s.pend <;> rw [hp] at hd1 hd2
  case none => exact ⟨a, b, rfl, fun hl => (hd1 hl).resolve_left nofun, fun hl => (hd2 hl).resolve_left nofun⟩
  case pressure => exact ⟨v, b, rfl, fun _ => rfl, fun hl => (hd2 hl).resolve_left nofun⟩
  case temperature => exact ⟨a, v, rfl, fun hl => (hd1 hl).resolve_left nofun, fun _ => rfl⟩

theorem State.finish_seq (s : State) (st : Status) (v : Int) : (s.finish st v).seq = .idle := by
  rcases s.finish_cases st v with ⟨hidle, h⟩ | ⟨code, -, h⟩ <;> rw [h]
  · exact hidle
  · rfl

theorem sequencerState_of_adcRead {s : State} (hwork : s.seq.work s.cfg = .command 0x00#8) :
    sequencerState s = s.readSample := by
  rcases SeqPos.eq_of_work_adcRead hwork with hpos | hpos | hpos <;> simp only [sequencerState, hpos]

theorem State.readSample_agrees {s : State} {a b : Sample} (hlive : s.LiveAt s.seq a b)
    (hwork : s.seq.work s.cfg = .command 0x00#8) (hpend : pendAt s.cfg.pConvOrder s.pend s.seq) :
    s.readSample.Agrees (s.withSamples a b).readSample := by
  unfold State.readSample
  rcases s.busAnswer_cases 0x00#8 with h | ⟨b0, b1, b2, h⟩
  · rw [memRead3_of_error _ h, memRead3_of_error _ (s := s.withSamples a b) h]
    refine ⟨a, b, raise_blind _ (s.transacted _).disturbSensor a b, ?_⟩
    rw [State.raise, finish_seq]
    exact liveAt_idle _ _ _
  · rw [memRead3_of_ok _ h, memRead3_of_ok _ (s := s.withSamples a b) h]
    exact storeSample_agrees (s := (s.transacted _).disturbSensor) _ hlive hwork hpend

/-- The CCB's own step keeps the agreement: at an ADC_READ by the sample read, elsewhere by reading no other. -/
theorem sequencerState_agrees {s : State} {a b : Sample} (hinv : s.Inv) (hlive : s.LiveAt s.seq a b) :
    (sequencerState s).Agrees (sequencerState (s.withSamples a b)) := by
  by_cases hwork : s.seq.work s.cfg = .command 0x00#8
  · rw [sequencerState_of_adcRead hwork, sequencerState_of_adcRead (s := s.withSamples a b) hwork]
    exact State.readSample_agrees hlive hwork hinv.pendSeq
  · obtain ⟨e, hmove⟩ := sequencerState_moves s
    exact ⟨a, b, sequencerState_withSamples hlive hwork, hmove.liveAt hlive hwork⟩

/-- Two outcomes that show the same: states that agree, or the same fault. -/
inductive OutcomesAgree : Host.Outcome State Fault Refusal → Host.Outcome State Fault Refusal → Prop
  | next {s t : State} (h : s.Agrees t) : OutcomesAgree (.next s) (.next t)
  | fault (f : Fault) : OutcomesAgree (.fault f) (.fault f)

/-- The idle CCB accepts a code the same way whatever D1 and D2 hold. -/
theorem exec_decodeRequest_withSamples {s : State} (hidle : s.seq = .idle) (code : Nibble) (a b : Sample) :
    ∃ t, exec (decodeRequest code) s = .next t ∧
      exec (decodeRequest code) (s.withSamples a b) = .next (t.withSamples a b) := by
  have hidle' : (s.withSamples a b).seq = .idle := hidle
  rcases exec_decodeRequest_cases hidle code with ⟨rfl, he⟩ | ⟨rfl, he⟩ | ⟨rfl, he⟩ | ⟨h1, h2, h3, he⟩
  · exact ⟨_, he, congrArg _ (State.accept_of_idle _ hidle')⟩
  · exact ⟨_, he, congrArg _ ((State.accept_of_idle _ hidle').trans (State.startRead_blind _ _ s a b))⟩
  · exact ⟨_, he, congrArg _ ((State.accept_of_idle _ hidle').trans (State.startRead_blind _ _ s a b))⟩
  · rcases exec_decodeRequest_cases hidle' code with ⟨hc, -⟩ | ⟨hc, -⟩ | ⟨hc, -⟩ | ⟨-, -, -, he'⟩
    · exact absurd hc h1
    · exact absurd hc h2
    · exact absurd hc h3
    · exact ⟨_, he, he'⟩

theorem exec_decodeRequest_agrees {s : State} (hidle : s.seq = .idle) (code : Nibble) (a b : Sample) :
    OutcomesAgree (exec (decodeRequest code) s) (exec (decodeRequest code) (s.withSamples a b)) := by
  obtain ⟨t, ht, ht'⟩ := exec_decodeRequest_withSamples hidle code a b
  obtain ⟨e, hmove⟩ := exec_decodeRequest_moves hidle ht
  have hlive : s.LiveAt s.seq a b := by rw [hidle]; exact s.liveAt_idle a b
  have hwork : s.seq.work s.cfg ≠ .command 0x00#8 := by rw [hidle]; nofun
  rw [ht, ht']
  exact .next ⟨a, b, rfl, hmove.liveAt hlive hwork⟩

/-- States that agree step to outcomes that agree, by the host's next move. -/
theorem step_agrees {s t : State} (hinv : s.Inv) (hag : s.Agrees t) : OutcomesAgree (step s) (step t) := by
  obtain ⟨a, b, rfl, hlive⟩ := hag
  unfold step stepWithHost
  rw [show (s.withSamples a b).host = s.host from rfl, show (s.withSamples a b).seq = s.seq from rfl]
  cases s.host with
  | nil =>
    rw [runSequencer_eq, runSequencer_eq]
    exact .next (sequencerState_agrees hinv hlive)
  | cons m rest =>
    cases m with dsimp only
    | quiet =>
      rw [runSequencer_eq, runSequencer_eq]
      exact .next (sequencerState_agrees (hinv.within { s.surroundings with host := rest }) hlive)
    | request code =>
      by_cases hidle : s.seq = .idle
      · rw [if_pos hidle, if_pos hidle]
        exact exec_decodeRequest_agrees (s := { s with host := rest }) hidle code a b
      · rw [if_neg hidle, if_neg hidle, runSequencer_eq, runSequencer_eq]
        exact .next (sequencerState_agrees hinv hlive)
    | blockReset => exact .next (State.Agrees.refl _)
    | readStatus => exact .next ⟨a, b, rfl, hlive⟩
    | otherMaster =>
      by_cases hidle : s.seq = .idle
      · rw [if_pos hidle, if_pos hidle]
        exact .next ⟨a, b, rfl, hlive⟩
      · rw [if_neg hidle, if_neg hidle]
        exact .fault _

theorem run_agrees (k : Nat) {s t : State} (hinv : s.Inv) (hag : s.Agrees t) :
    OutcomesAgree (Sys2Proof.core.run k s) (Sys2Proof.core.run k t) := by
  induction k generalizing s t with
  | zero => exact .next hag
  | succ k ih =>
    have hstep := step_agrees hinv hag
    generalize hs : step s = o at hstep
    generalize ht : step t = o' at hstep
    cases hstep with
    | next hag' =>
      rw [run_succ k hs, run_succ k ht]
      exact ih (stepKeepsTheInvariant _ _ hinv hs) hag'
    | fault f =>
      rw [run_succ_fault k hs, run_succ_fault k ht]
      exact .fault f

/-- Settles O58: with SEQ = IDLE no sample is live, so the two states agree, and so do their runs. -/
theorem earlierSamplesAreNeverRead : Obligations.EarlierSamplesAreNeverRead := by
  intro k s d1 d2 hinv hidle
  have hag : s.Agrees (s.withSamples d1 d2) := ⟨d1, d2, rfl, hidle ▸ s.liveAt_idle d1 d2⟩
  have hruns := run_agrees k hinv hag
  refine ⟨fun t ht => ?_, fun f hf => ?_⟩
  · rw [ht] at hruns
    generalize Sys2Proof.core.run k (s.withSamples d1 d2) = o at hruns ⊢
    cases hruns with
    | next hag' =>
      obtain ⟨a, b, rfl, -⟩ := hag'
      exact ⟨_, rfl, rfl⟩
  · rw [hf] at hruns
    generalize Sys2Proof.core.run k (s.withSamples d1 d2) = o at hruns ⊢
    cases hruns with
    | fault => rfl

end Sys2Proof.Machine
end

section
/-! PROOFS. The family '20_memory.md': the result read (R56), the transactions a step issues (R53), another master's use
of the bus (R65), and where a table word is placed (log 17). -/

namespace Sys2Proof.Machine

/-! The result read (R56, R122). -/

/-- R56: three bytes make a sample, the first being the highest. -/
theorem sampleOfBytes_toNat (b0 b1 b2 : Byte) :
    (sampleOfBytes b0 b1 b2).toNat = b0.toNat * 2 ^ 16 + b1.toNat * 2 ^ 8 + b2.toNat := by
  have happend : (sampleOfBytes b0 b1 b2).toNat = (b0.toNat <<< 8 ||| b1.toNat) <<< 8 ||| b2.toNat := by
    rw [sampleOfBytes, BitVec.toNat_append, BitVec.toNat_append]
  rw [happend, ← Nat.shiftLeft_add_eq_or_of_lt b1.isLt, ← Nat.shiftLeft_add_eq_or_of_lt b2.isLt,
    Nat.shiftLeft_eq, Nat.shiftLeft_eq]
  ring

/-- The sample goes to the register that PEND names, the other keeps its value, and PEND becomes NONE (R122). -/
theorem State.storeSample_eq (s : State) (v : Sample) : s.storeSample v = { s with
    d1 := if s.pend = .pressure then v else s.d1
    d2 := if s.pend = .temperature then v else s.d2
    pend := .none } := by
  rcases s.storeSample_cases v with ⟨hp, h⟩ | ⟨hp, h⟩ | ⟨hp, h⟩ <;> simp [h, hp]

/-- Settles O24: the three bytes are the sample's value, and PEND tells where it is stored. -/
theorem adcReadStoresByPend : Obligations.AdcReadStoresByPend := by
  intro s b0 b1 b2 v hok hv
  obtain rfl : sampleOfBytes b0 b1 b2 = v := BitVec.eq_of_toNat_eq ((sampleOfBytes_toNat b0 b1 b2).trans hv.symm)
  refine ⟨(s.transacted (.read s.cfg.devAddr 0x00#8 3 (some [b0, b1, b2]))).disturbSensor.sensor, rfl, ?_⟩
  change Host.Outcome.next s.readSample = _
  rw [State.readSample, State.memRead3_of_ok _ hok, State.storeSample_eq]
  rfl

/-! What a step puts on the bus trace (R53, R179). -/

/-- From `s` to `t` the trace grows by at most one entry, which is one that the CCB may issue. -/
def State.IssuesListed (s t : State) : Prop :=
  t.trace = s.trace ∨ ∃ e, t.trace = s.trace ++ [e] ∧ allowedTransaction s.cfg e

@[simp] theorem State.finish_trace (s : State) (st : Status) (v : Int) : (s.finish st v).trace = s.trace := by
  rcases s.finish_cases st v with ⟨-, h⟩ | ⟨code, -, h⟩ <;> simp [h]

@[simp] theorem State.raise_trace (s : State) (st : Status) : (s.raise st).trace = s.trace :=
  s.finish_trace st 0

@[simp] theorem State.storeSample_trace (s : State) (v : Sample) : (s.storeSample v).trace = s.trace := by
  rw [s.storeSample_eq]

@[simp] theorem validateStep_trace (s : State) : (validateStep s).trace = s.trace := by
  rcases validateStep_cases s with ⟨-, h⟩ | ⟨-, h⟩ <;> simp [h]

@[simp] theorem State.startRead_trace (code : Nibble) (first : SeqPos) (s : State) :
    (s.startRead code first).trace = s.trace := by
  rcases s.startRead_cases code first with ⟨-, h⟩ | ⟨-, h⟩ <;> simp [h]

/-- A MemWrite of a listed command issues that one transaction, whether it fails or not. -/
theorem State.memWrite_listed {f : State → State} (hf : ∀ s : State, (f s).trace = s.trace) {cmd : Byte}
    (hcmd : cmd = 0x1E#8 ∨ cmd = 0x48#8 ∨ cmd = 0x58#8) (s : State) : s.IssuesListed (s.memWrite cmd f) := by
  rcases s.busAnswer_cases cmd with h | ⟨b0, b1, b2, h⟩
  · exact .inr ⟨.write s.cfg.devAddr cmd false, by simp [memWrite_of_error f h], rfl, hcmd⟩
  · exact .inr ⟨.write s.cfg.devAddr cmd true, by simp [memWrite_of_ok f h, hf], rfl, hcmd⟩

/-- A PROM read issues that one transaction, with two bytes or none; word 0 is read under DATASHEET8 only. -/
theorem State.memRead2_listed {f : Byte → Byte → State → State}
    (hf : ∀ b0 b1 (s : State), (f b0 b1 s).trace = s.trace) {cmd : Byte} (s : State)
    (hcmd : cmd ∈ [0xA2#8, 0xA4#8, 0xA6#8, 0xA8#8, 0xAA#8, 0xAC#8, 0xAE#8] ∨
      (cmd = 0xA0#8 ∧ s.cfg.crcWordSet = .datasheet8)) : s.IssuesListed (s.memRead2 cmd f) := by
  have hlisted (data : Option (List Byte)) (hlen : ∀ bytes, data = some bytes → bytes.length = 2) :
      allowedTransaction s.cfg (.read s.cfg.devAddr cmd 2 data) :=
    ⟨rfl, hlen, hcmd.imp (⟨rfl, ·⟩) (.inl ⟨rfl, ·⟩)⟩
  rcases s.busAnswer_cases cmd with h | ⟨b0, b1, b2, h⟩
  · exact .inr ⟨_, by simp [memRead2_of_error f h], hlisted none nofun⟩
  · exact .inr ⟨_, by simp [memRead2_of_ok f h, hf], hlisted (some [b0, b1]) (by simp)⟩

theorem promReadInto_listed (n : CalIndex) (s : State) : s.IssuesListed (promReadInto n s) := by
  refine State.memRead2_listed ?_ s (.inl ?_)
  · exact fun _ _ _ => rfl
  · cases n <;> decide

theorem State.convert_listed (ch : Channel) (s : State) : s.IssuesListed (s.convert ch) := by
  refine memWrite_listed ?_ ?_ s
  · exact fun _ => rfl
  · cases ch <;> decide

/-- A result read issues that one transaction, with three bytes or none. -/
theorem State.readSample_listed (s : State) : s.IssuesListed s.readSample := by
  rcases s.busAnswer_cases 0x00#8 with h | ⟨b0, b1, b2, h⟩
  · exact .inr ⟨.read s.cfg.devAddr 0x00#8 3 none, by simp [readSample, memRead3_of_error _ h],
      rfl, nofun, .inr (.inr ⟨rfl, rfl⟩)⟩
  · exact .inr ⟨.read s.cfg.devAddr 0x00#8 3 (some [b0, b1, b2]), by simp [readSample, memRead3_of_ok _ h],
      rfl, by simp, .inr (.inr ⟨rfl, rfl⟩)⟩

theorem waitStep_listed (ms : Nat) (s : State) : s.IssuesListed (waitStep ms s) :=
  .inr ⟨.wait ms, rfl, trivial⟩

/-- The CCB's own step issues at most one listed transaction, at every position of SEQ; PROM_READ 0 stands at one
position only. -/
theorem sequencerState_listed (s : State) (hprom0 : s.seq = .init .prom0 → s.cfg.crcWordSet = .datasheet8) :
    s.IssuesListed (sequencerState s) := by
  unfold sequencerState
  cases hpos : s.seq with
  | idle => exact .inl rfl
  | init k =>
    cases k with
    | sensorReset =>
      refine State.memWrite_listed ?_ (.inl rfl) s
      exact fun _ => rfl
    | resetWait => exact waitStep_listed _ s
    | prom0 =>
      refine State.memRead2_listed ?_ s (.inr ⟨rfl, hprom0 hpos⟩)
      exact fun _ _ _ => rfl
    | prom1 | prom2 | prom3 | prom4 | prom5 | prom6 => exact promReadInto_listed _ s
    | promCrc =>
      refine State.memRead2_listed ?_ s (.inl (by decide))
      exact fun _ _ _ => rfl
    | validate => exact .inl (validateStep_trace s)
  | readT k =>
    cases k with
    | conv => exact s.convert_listed _
    | convWait => exact waitStep_listed _ s
    | adc => exact s.readSample_listed
    | compute => exact .inl (s.finish_trace _ _)
  | readP k =>
    cases k with
    | conv1 | conv2 => exact s.convert_listed _
    | wait1 | wait2 => exact waitStep_listed _ s
    | adc1 | adc2 => exact s.readSample_listed
    | compute => exact .inl (s.finish_trace _ _)

/-- The acceptance of a request issues no transaction (R170). -/
theorem exec_decodeRequest_trace {s t : State} {code : Nibble} (hidle : s.seq = .idle)
    (h : exec (decodeRequest code) s = .next t) : t.trace = s.trace := by
  rcases exec_decodeRequest_cases hidle code with ⟨-, he⟩ | ⟨-, he⟩ | ⟨-, he⟩ | ⟨-, -, -, he⟩ <;>
    obtain rfl := Host.Outcome.next.inj (he.symm.trans h)
  · rfl
  · exact s.startRead_trace _ _
  · exact s.startRead_trace _ _
  · rfl

/-- Settles O27, by the host's next move: only the CCB's own step issues a transaction. -/
theorem onlyListedTransactionsAreIssued : Obligations.OnlyListedTransactionsAreIssued := by
  intro s t hinv h
  change s.IssuesListed t
  rcases step_cases s with ⟨-, he⟩ | ⟨rest, -, he⟩ | ⟨code, rest, -, hidle, he⟩ | ⟨code, rest, -, -, he⟩ |
    ⟨rest, -, he⟩ | ⟨rest, -, he⟩ | ⟨rest, -, -, he⟩ | ⟨rest, -, -, he⟩ <;> rw [he] at h
  case inr.inr.inl =>
    exact .inl (exec_decodeRequest_trace (s := { s with host := rest }) hidle h)
  all_goals cases h
  · exact sequencerState_listed s hinv.prom0Seq
  · exact sequencerState_listed { s with host := rest } hinv.prom0Seq
  · exact sequencerState_listed s hinv.prom0Seq
  all_goals exact .inl rfl

/-! Another master on the bus (R65; log 12). -/

/-- Settles O59: the move is a step of its own while SEQ = IDLE and has no step otherwise. -/
theorem foreignMasterOnlyWhileIdle : Obligations.ForeignMasterOnlyWhileIdle := by
  intro s rest hh
  refine ⟨fun hbusy => ?_, fun hidle => ⟨s.disturbSensor.sensor, rfl, ?_⟩⟩
  · simp only [step, stepWithHost, hh, hbusy, if_false]
  · simp only [step, stepWithHost, hh, hidle, if_true]
    rfl

/-! Where an instruction is placed (log 17). -/

/-- What a position of SEQ does depends on P_CONV_ORDER alone. -/
theorem SeqPos.work_crcWordSet (p : Params) (words : CrcWordSet) (q : SeqPos) :
    q.work { p with crcWordSet := words } = q.work p := by
  cases q <;> rfl

/-- What the request port decodes encodes to its code (R79). -/
theorem encode_decodeRequest (code : Nibble) : encode (decodeRequest code) = .request code := by
  revert code; decide

/-- What the bus decodes is a bus operation (R75). -/
theorem isBusOperation_of_decodeCommand {cmd : Byte} {i : Instr} (h : decodeCommand cmd = .ok i) :
    isBusOperation i = true := by
  have hprom : ∀ n : BitVec 3, isBusOperation (promReadOf n) = true := by decide
  unfold decodeCommand at h
  split at h
  · cases h; exact hprom _
  repeat' split at h
  all_goals cases h
  all_goals rfl

/-- A bus operation has a place in a sequence, where SEQ issues the command byte that decodes to it (R171 to R173);
CONV_D1's place follows P_CONV_ORDER. -/
theorem positionOf_busOperation (p : Params) {i : Instr} (h : isBusOperation i = true) :
    ∃ cmd q, encode i = .command cmd ∧ positionOf p i = some q ∧ q.work p = .command cmd ∧
      decode (.command cmd) = .ok i := by
  cases i with
  | init | readT | readP | reserved0 | reserved4to7 | reserved8toF => cases h
  | convD1 =>
    obtain ⟨_, _, _ | _, _, _⟩ := p
    · exact ⟨_, .readP .conv1, rfl, rfl, rfl, rfl⟩
    · exact ⟨_, .readP .conv2, rfl, rfl, rfl, rfl⟩
  | _ => exact ⟨_, _, rfl, rfl, rfl, rfl⟩

/-- A request that is placed is accepted by the very next step (R170). -/
theorem step_place_of_request {s : State} {code : Nibble} {i : Instr} (h : decode (.request code) = .ok i) :
    step (s.place i) = exec i { s.place i with host := s.host } := by
  have henc : encode i = .request code := by
    obtain rfl : decodeRequest code = i := Except.ok.inj h
    exact encode_decodeRequest code
  obtain ⟨-, -, hrequest⟩ := stepRunsDecodedInstruction
  refine hrequest _ _ code i ?_ ?_ h <;> simp [State.place, henc]

/-- A bus operation that is placed is issued by the very next step, under the parameters it is placed with (R103). -/
theorem step_place_of_busOperation {s : State} {i : Instr} (h : isBusOperation i = true) :
    step (s.place i) = exec i { s.place i with host := s.host } := by
  obtain ⟨cmd, q, henc, hpos, hwork, hd⟩ := positionOf_busOperation s.cfg h
  obtain ⟨-, hquiet, -⟩ := stepRunsDecodedInstruction
  refine hquiet _ _ cmd i ?_ ?_ hd
  · simp [State.place, henc, hpos]
  · simp only [State.place, henc, hpos, State.goto_seq, State.goto_cfg]
    split
    · rw [SeqPos.work_crcWordSet, hwork]
    · exact hwork

/-- A table word that decodes is a word of one of the two ports (log 16). -/
theorem exists_decode_of_decodeTableWord {nbits w : Nat} {i : Instr} (h : decodeTableWord nbits w = some i) :
    ∃ word, decode word = .ok i := by
  unfold decodeTableWord at h
  split at h
  · rename_i word hw
    cases hd : decode word with
    | ok j => rw [hd] at h; cases h; exact ⟨word, hd⟩
    | error e => rw [hd] at h; cases h
  · cases h

/-- Settles O8: on the request port the word is presented, on the bus it is issued from its place. -/
theorem placedTableWordRunsNext : Obligations.PlacedTableWordRunsNext := by
  intro s nbits w i h
  obtain ⟨word, hd⟩ := exists_decode_of_decodeTableWord h
  have hplace : s.withFetchWord nbits w = s.place i := by simp only [State.withFetchWord, h]
  rw [hplace]
  cases word with
  | request code => exact step_place_of_request hd
  | command cmd => exact step_place_of_busOperation (isBusOperation_of_decodeCommand hd)

end Sys2Proof.Machine
end

section
/-! PROOFS. The family '30_encoding.md': decoding and encoding are inverse (R72, R75, R76, R79), words against the rows of
the opcode table (R78), and that every instruction completes (R79). -/

namespace Sys2Proof.Machine

/-! Format H: the request codes by their ranges (R72, R73). -/

/-- A request code is one of the three requests or lies in one of the three reserved ranges. -/
theorem requestCode_cases (code : Nibble) :
    code = 0x1#4 ∨ code = 0x2#4 ∨ code = 0x3#4 ∨ code = 0x0#4 ∨ (0x4#4 ≤ code ∧ code ≤ 0x7#4) ∨ 0x8#4 ≤ code := by
  bv_omega

/-- The bits REQ[3:2] = 01 mark the codes 0x4 to 0x7. -/
theorem extractLsb'_eq_01_iff (code : Nibble) :
    code.extractLsb' 2 2 = 0b01#2 ↔ 0x4#4 ≤ code ∧ code ≤ 0x7#4 := by
  revert code; decide

/-- From 0x4 on, the decoder looks at REQ[3:2] alone. -/
theorem decodeRequest_of_four_le {code : Nibble} (h : 0x4#4 ≤ code) :
    decodeRequest code =
      if code.extractLsb' 2 2 = 0b01#2 then .reserved4to7 code else .reserved8toF code := by
  have h1 : code ≠ 0x1#4 := by bv_omega
  have h2 : code ≠ 0x2#4 := by bv_omega
  have h3 : code ≠ 0x3#4 := by bv_omega
  have h0 : code ≠ 0x0#4 := by bv_omega
  simp only [decodeRequest, h1, h2, h3, h0, if_false]

theorem decodeRequest_of_4to7 {code : Nibble} (h : 0x4#4 ≤ code ∧ code ≤ 0x7#4) :
    decodeRequest code = .reserved4to7 code := by
  rw [decodeRequest_of_four_le h.1, if_pos ((extractLsb'_eq_01_iff code).mpr h)]

theorem decodeRequest_of_8toF {code : Nibble} (h : 0x8#4 ≤ code) : decodeRequest code = .reserved8toF code := by
  have h47 : ¬(0x4#4 ≤ code ∧ code ≤ 0x7#4) := by bv_omega
  rw [decodeRequest_of_four_le (by bv_omega), if_neg (mt (extractLsb'_eq_01_iff code).mp h47)]

/-- The request port decodes to well-formed instructions only: a reserved code lies in its row (R73). -/
theorem decodeRequest_wf (code : Nibble) : (decodeRequest code).wf = true := by
  rcases requestCode_cases code with rfl | rfl | rfl | rfl | h | h
  iterate 4 · rfl
  · simp [decodeRequest_of_4to7 h, Instr.wf, h]
  · simp [decodeRequest_of_8toF h, Instr.wf, h]

/-- No two request codes decode to the same instruction. -/
theorem decodeRequest_injective : Function.Injective decodeRequest := by
  intro a b h
  have hword : PortWord.request a = .request b := by
    rw [← encode_decodeRequest a, h, encode_decodeRequest b]
  exact PortWord.request.inj hword

/-- The reserved instructions stand for the codes that R73 reserves. -/
theorem decodeRequest_isReserved_iff (code : Nibble) :
    (decodeRequest code = .reserved0 ∨ decodeRequest code = .reserved4to7 code ∨
      decodeRequest code = .reserved8toF code) ↔ (code = 0x0#4 ∨ 0x4#4 ≤ code) := by
  rcases requestCode_cases code with rfl | rfl | rfl | rfl | h | h
  iterate 4 · decide
  · simp [decodeRequest_of_4to7 h, h]
  · have h4 : 0x4#4 ≤ code := by bv_omega
    simp [decodeRequest_of_8toF h, h4]

/-! Sub-format P: the PROM commands and their index (R74, R76). -/

theorem promCommand_eq_append (n : BitVec 3) : promCommand n = 0b1010#4 ++ n ++ 0b0#1 := by
  revert n; decide

theorem promCommand_toNat (n : BitVec 3) : (promCommand n).toNat = 0xA0 + 2 * n.toNat := by
  revert n; decide

@[simp] theorem isPromRead_promCommand (n : BitVec 3) : isPromRead (promCommand n) = true := by
  revert n; decide

@[simp] theorem promIndex_promCommand (n : BitVec 3) : promIndex (promCommand n) = n := by
  revert n; decide

/-- A byte with the fixed bits of sub-format P is the command of its index: the three fields make up the byte. -/
theorem promCommand_promIndex {cmd : Byte} (hhigh : cmd.extractLsb' 4 4 = 0b1010#4)
    (hlow : cmd.extractLsb' 0 1 = 0b0#1) : promCommand (promIndex cmd) = cmd := by
  calc promCommand (promIndex cmd)
      = cmd.extractLsb' 4 4 ++ cmd.extractLsb' 1 3 ++ cmd.extractLsb' 0 1 := by
        rw [promCommand_eq_append, hhigh, hlow, promIndex]
    _ = cmd.extractLsb' 0 8 := by
        rw [BitVec.extractLsb'_append_extractLsb'_eq_extractLsb' (start₁ := 1) (len₁ := 3) rfl,
          BitVec.extractLsb'_append_extractLsb'_eq_extractLsb' (start₁ := 0) (len₁ := 1) rfl]
    _ = cmd := BitVec.extractLsb'_eq_self

theorem exists_promCommand_of_isPromRead {cmd : Byte} (h : isPromRead cmd = true) : ∃ n, promCommand n = cmd := by
  simp only [isPromRead, Bool.and_eq_true, decide_eq_true_eq] at h
  exact ⟨promIndex cmd, promCommand_promIndex h.1 h.2⟩

@[simp] theorem decodeCommand_promCommand (n : BitVec 3) : decodeCommand (promCommand n) = .ok (promReadOf n) := by
  simp [decodeCommand]

/-- The PROM read of each index has that index in its command. -/
theorem encode_promReadOf (n : BitVec 3) : encode (promReadOf n) = .command (promCommand n) := by
  revert n; decide

theorem promReadOf_wf (n : BitVec 3) : (promReadOf n).wf = true := by
  revert n; decide

/-- Settles O5: the command's three fields, and the byte put together from them. -/
theorem promCommandCarriesTheIndex : Obligations.PromCommandCarriesTheIndex := by
  obtain ⟨-, hfirst, -, -, -, -, -, hcrc⟩ := promCommand_values
  refine ⟨fun n => ⟨promCommand_eq_append n, promCommand_toNat n, ?_, promIndex_promCommand n⟩,
    fun cmd hhigh hlow => promCommand_promIndex hhigh hlow, hfirst, hcrc⟩
  exact decodeCommand_promCommand n

/-! Decoding and encoding are inverse. -/

/-- Settles O1, by the instruction: a reserved code by its range, a PROM read by its index, the rest by their words. -/
theorem decodeOfEncodeIsIdentity : Obligations.DecodeOfEncodeIsIdentity := by
  intro i hwf
  cases i with
  | reserved4to7 code =>
    simp only [Instr.wf, Bool.and_eq_true, decide_eq_true_eq] at hwf
    exact congrArg Except.ok (decodeRequest_of_4to7 hwf)
  | reserved8toF code =>
    simp only [Instr.wf, decide_eq_true_eq] at hwf
    exact congrArg Except.ok (decodeRequest_of_8toF hwf)
  | promRead0 => exact decodeCommand_promCommand 0#3
  | promRead1 => exact decodeCommand_promCommand 1#3
  | promRead2 => exact decodeCommand_promCommand 2#3
  | promRead3 => exact decodeCommand_promCommand 3#3
  | promRead4 => exact decodeCommand_promCommand 4#3
  | promRead5 => exact decodeCommand_promCommand 5#3
  | promRead6 => exact decodeCommand_promCommand 6#3
  | promReadCrc => exact decodeCommand_promCommand 7#3
  | init | readT | readP | reserved0 | sensorReset | convD1 | convD2 | adcRead => rfl

/-- What a command byte decodes to, with the byte: a PROM read of some index, or one of the four single commands. -/
theorem decodeCommand_ok_cases {cmd : Byte} {i : Instr} (h : decodeCommand cmd = .ok i) :
    (∃ n, cmd = promCommand n ∧ i = promReadOf n) ∨ (cmd = 0x1E#8 ∧ i = .sensorReset) ∨
    (cmd = 0x48#8 ∧ i = .convD1) ∨ (cmd = 0x58#8 ∧ i = .convD2) ∨ (cmd = 0x00#8 ∧ i = .adcRead) := by
  by_cases hprom : isPromRead cmd = true
  · obtain ⟨n, rfl⟩ := exists_promCommand_of_isPromRead hprom
    rw [decodeCommand_promCommand] at h
    exact .inl ⟨n, rfl, (Except.ok.inj h).symm⟩
  · right
    rw [decodeCommand, if_neg hprom] at h
    split_ifs at h with hreset hconv1 hconv2 hadc <;> obtain rfl := Except.ok.inj h
    · exact .inl ⟨hreset, rfl⟩
    · exact .inr (.inl ⟨hconv1, rfl⟩)
    · exact .inr (.inr (.inl ⟨hconv2, rfl⟩))
    · exact .inr (.inr (.inr ⟨hadc, rfl⟩))

/-- Settles O2, by the port: the request code is read off the instruction, and each command byte is the instruction's. -/
theorem encodeOfDecodeIsIdentity : Obligations.EncodeOfDecodeIsIdentity := by
  intro word i h
  cases word with
  | request code =>
    obtain rfl : decodeRequest code = i := Except.ok.inj h
    exact ⟨decodeRequest_wf code, encode_decodeRequest code⟩
  | command cmd =>
    rcases decodeCommand_ok_cases h with ⟨n, rfl, rfl⟩ | ⟨rfl, rfl⟩ | ⟨rfl, rfl⟩ | ⟨rfl, rfl⟩ | ⟨rfl, rfl⟩
    · exact ⟨promReadOf_wf n, encode_promReadOf n⟩
    all_goals exact ⟨rfl, rfl⟩

/-- Settles O6: each word written out is the encoder's word of its instruction. -/
theorem writtenOutWordsDecode : Obligations.WrittenOutWordsDecode :=
  ⟨decodeOfEncodeIsIdentity .init rfl, decodeOfEncodeIsIdentity .readT rfl, decodeOfEncodeIsIdentity .readP rfl,
    decodeOfEncodeIsIdentity (.reserved4to7 0b0110#4) rfl, decodeOfEncodeIsIdentity .sensorReset rfl,
    decodeOfEncodeIsIdentity .promRead3 rfl, decodeOfEncodeIsIdentity .promReadCrc rfl,
    decodeOfEncodeIsIdentity .convD2 rfl, decodeOfEncodeIsIdentity .adcRead rfl⟩

/-! Words and the rows of the opcode table (R78). -/

/-- The word of a well-formed instruction fits its own row only. -/
theorem rowsOf_encode : ∀ i : Instr, Laws.TableRow.Statement i
  | .init => Laws.TableRow.init
  | .readT => Laws.TableRow.readT
  | .readP => Laws.TableRow.readP
  | .reserved0 => Laws.TableRow.reserved0
  | .reserved4to7 code => Laws.TableRow.reserved4to7 code
  | .reserved8toF code => Laws.TableRow.reserved8toF code
  | .sensorReset => Laws.TableRow.sensorReset
  | .promRead0 => Laws.TableRow.promRead0
  | .promRead1 => Laws.TableRow.promRead1
  | .promRead2 => Laws.TableRow.promRead2
  | .promRead3 => Laws.TableRow.promRead3
  | .promRead4 => Laws.TableRow.promRead4
  | .promRead5 => Laws.TableRow.promRead5
  | .promRead6 => Laws.TableRow.promRead6
  | .promReadCrc => Laws.TableRow.promReadCrc
  | .convD1 => Laws.TableRow.convD1
  | .convD2 => Laws.TableRow.convD2
  | .adcRead => Laws.TableRow.adcRead

/-- A row of format S fixes all eight bits, to a byte that decodes. -/
theorem opcodeTable_commandRow : ∀ r ∈ opcodeTable, r.width = 8 →
    r.mask = 0xFF ∧ (decodeCommand (BitVec.ofNat 8 r.pattern)).isOk = true := by
  decide

/-- A command byte that fits a row of the table decodes. -/
theorem decodeCommand_isOk_of_fits {r : OpcodeRow} {cmd : Byte} (hr : r ∈ opcodeTable)
    (hfits : r.fits (.command cmd) = true) : (decodeCommand cmd).isOk = true := by
  simp only [OpcodeRow.fits, PortWord.width, PortWord.bits, Bool.and_eq_true, beq_iff_eq] at hfits
  obtain ⟨hwidth, hbits⟩ := hfits
  obtain ⟨hmask, hdecodes⟩ := opcodeTable_commandRow r hr hwidth.symm
  have hpattern : cmd.toNat = r.pattern := by
    rw [← hbits, hmask]
    exact (Nat.and_two_pow_sub_one_of_lt_two_pow cmd.isLt).symm
  rwa [← hpattern, BitVec.ofNat_toNat, BitVec.setWidth_eq] at hdecodes

/-- Settles O3: a word that decodes is its instruction's word, and a byte that fits a row decodes. -/
theorem wordFitsExactlyItsDecodedRow : Obligations.WordFitsExactlyItsDecodedRow := by
  intro word
  constructor
  · intro i h
    obtain ⟨hwf, rfl⟩ := encodeOfDecodeIsIdentity word i h
    exact rowsOf_encode i hwf
  · intro e h
    cases word with
    | request code => cases h
    | command cmd =>
      have hnone : ∀ r ∈ opcodeTable, ¬r.fits (.command cmd) = true := by
        intro r hr hfits
        have hok := decodeCommand_isOk_of_fits hr hfits
        rw [show decodeCommand cmd = .error e from h] at hok
        cases hok
      rw [rowsOf, List.filter_eq_nil_iff.mpr hnone, List.map_nil]

/-! Every instruction completes (R79, R175). -/

/-- Settles O12, by the instruction: each meaning answers a next state, whatever the transaction's outcome. -/
theorem everyInstructionAnswersANextState : Obligations.EveryInstructionAnswersANextState := by
  intro i s
  cases i <;> exact ⟨_, rfl⟩

/-- Settles O4: each request is the instruction of its one code, and the reserved instructions are the codes of R73. -/
theorem requestDecodingIsTotal : Obligations.RequestDecodingIsTotal := by
  intro code
  exact ⟨decodeRequest code, rfl, decodeRequest_injective.eq_iff (b := 0x1#4),
    decodeRequest_injective.eq_iff (b := 0x2#4), decodeRequest_injective.eq_iff (b := 0x3#4),
    decodeRequest_isReserved_iff code, everyInstructionAnswersANextState _⟩

end Sys2Proof.Machine
end

section
/-! PROOFS. The family '40_calibration.md': the PROM reads (R101 to R103), the checksum (R104, R105, R107 to R109), and
the validation (R106). -/

namespace Sys2Proof.Machine

/-! The two bytes of a PROM read (R55, R57). -/

/-- R55: two bytes make a word, the first being the high byte. -/
theorem wordOfBytes_toNat (b0 b1 : Byte) : (wordOfBytes b0 b1).toNat = b0.toNat * 2 ^ 8 + b1.toNat := by
  rw [wordOfBytes, BitVec.toNat_append, ← Nat.shiftLeft_add_eq_or_of_lt b1.isLt, Nat.shiftLeft_eq]

theorem wordOfBytes_eq_of_toNat {b0 b1 : Byte} {v : Word} (hv : v.toNat = b0.toNat * 2 ^ 8 + b1.toNat) :
    wordOfBytes b0 b1 = v :=
  BitVec.eq_of_toNat_eq ((wordOfBytes_toNat b0 b1).trans hv.symm)

/-- The low four bits as a number: the mask 0xF (R57). -/
theorem extractLsb'_low_toNat {w : Nat} (v : BitVec w) : (v.extractLsb' 0 4).toNat = v.toNat &&& 0xF := by
  rw [BitVec.extractLsb'_toNat, Nat.shiftRight_zero]
  exact (Nat.and_two_pow_sub_one_eq_mod v.toNat 4).symm

/-! The PROM reads, by what the bus answers. -/

/-- A read of two bytes that fails ends the running request with TRANSPORT_ERROR (R60, R202). -/
theorem State.memRead2_failed {s : State} {cmd : Byte} {code : Nibble} (f : Byte → Byte → State → State)
    (hfail : s.busAnswer cmd = .transportError) (hrun : s.seq.requestCode = some code) :
    s.memRead2 cmd f =
      (s.transacted (.read s.cfg.devAddr cmd 2 none)).complete code .transportError 0 := by
  rw [memRead2_of_error f hfail]
  exact finish_of_running _ _ hrun

/-- The instruction PROM_READ n (R101). -/
def CalIndex.promRead : CalIndex → Instr
  | .n1 => .promRead1
  | .n2 => .promRead2
  | .n3 => .promRead3
  | .n4 => .promRead4
  | .n5 => .promRead5
  | .n6 => .promRead6

theorem exec_promRead (n : CalIndex) (s : State) : exec n.promRead s = .next (promReadInto n s) := by
  cases n <;> rfl

theorem encode_promRead (n : CalIndex) : encode n.promRead = .command (promCommand n.promIndex) := by
  cases n <;> rfl

theorem exists_eq_promRead {i : Instr}
    (h : i ∈ [Instr.promRead1, .promRead2, .promRead3, .promRead4, .promRead5, .promRead6]) :
    ∃ n : CalIndex, i = n.promRead := by
  simp only [List.mem_cons, List.not_mem_nil, or_false] at h
  rcases h with h | h | h | h | h | h
  · exact ⟨.n1, h⟩
  · exact ⟨.n2, h⟩
  · exact ⟨.n3, h⟩
  · exact ⟨.n4, h⟩
  · exact ⟨.n5, h⟩
  · exact ⟨.n6, h⟩

/-- PROM_READ n that returns its bytes stores the word they make in C[n] (R101). -/
theorem exec_promRead_of_ok {s : State} {b0 b1 b2 : Byte} {v : Word} (n : CalIndex)
    (hv : v.toNat = b0.toNat * 2 ^ 8 + b1.toNat)
    (hok : s.busAnswer (promCommand n.promIndex) = .ok b0 b1 b2) :
    exec n.promRead s = .next { s.movedOn (.read s.cfg.devAddr (promCommand n.promIndex) 2 (some [b0, b1])) with
      c := s.c.set v n } := by
  rw [exec_promRead, promReadInto, State.memRead2_of_ok _ hok, wordOfBytes_eq_of_toNat hv]
  rfl

/-- Settles O20: the failing read completes at once, and each of the six words is PROM_READ n for its n. -/
theorem promReadStoresItsCalibrationWord : Obligations.PromReadStoresItsCalibrationWord := by
  refine ⟨fun s i cmd code hi hcmd hfail hrun => ?_, fun s b0 b1 b2 v hv => ⟨?_, ?_, ?_, ?_, ?_, ?_⟩⟩
  · obtain ⟨n, rfl⟩ := exists_eq_promRead hi
    obtain rfl := PortWord.command.inj ((encode_promRead n).symm.trans hcmd)
    refine ⟨_, exec_promRead n s, ?_⟩
    rw [promReadInto, State.memRead2_failed _ hfail hrun]
    exact ⟨rfl, rfl⟩
  · exact exec_promRead_of_ok .n1 hv
  · exact exec_promRead_of_ok .n2 hv
  · exact exec_promRead_of_ok .n3 hv
  · exact exec_promRead_of_ok .n4 hv
  · exact exec_promRead_of_ok .n5 hv
  · exact exec_promRead_of_ok .n6 hv

/-- Settles O21: the second byte's low four bits are those of the word, and both registers are written together. -/
theorem promReadCrcStoresWordAndChecksum : Obligations.PromReadCrcStoresWordAndChecksum := by
  refine ⟨fun s code hfail hrun => ?_, fun s b0 b1 b2 v k hok hv hk => ?_⟩
  · refine ⟨_, rfl, ?_⟩
    rw [State.memRead2_failed _ hfail hrun]
    exact ⟨rfl, rfl, rfl⟩
  · obtain rfl := wordOfBytes_eq_of_toNat hv
    obtain rfl : checksumOfByte b1 = k := BitVec.eq_of_toNat_eq ((extractLsb'_low_toNat b1).trans hk.symm)
    refine ⟨?_, ?_⟩
    · rw [checksumOfByte_eq b0 b1, extractLsb'_low_toNat]
    · rw [exec, execPromReadCrc, State.memRead2_of_ok _ hok]
      rfl

/-- Settles O22: the two bytes are the word's value. -/
theorem promReadZeroStoresWordZero : Obligations.PromReadZeroStoresWordZero := by
  intro s b0 b1 b2 v hok hv
  rw [exec, execPromRead0, State.memRead2_of_ok _ hok, wordOfBytes_eq_of_toNat hv]
  rfl

/-- Settles O19: the sensor is disturbed but keeps its PROM, and PEND alone is written. -/
theorem sensorResetChangesOnlyPend : Obligations.SensorResetChangesOnlyPend := by
  intro s b0 b1 b2 hok
  refine ⟨(s.transacted (.write s.cfg.devAddr 0x1E#8 true)).disturbSensor.sensor, rfl, ?_⟩
  rw [exec, execSensorReset, State.memWrite_of_ok _ hok]
  rfl

/-! The shifts of the remainder (R105): they are linear over XOR, since the feedback goes by the top bit alone, and a
byte that meets no feedback arrives unchanged in the high byte. -/

theorem crcShift_xor (a b : Word) : crcShift (a ^^^ b) = crcShift a ^^^ crcShift b := by
  simp only [crcShift, BitVec.msb_xor, BitVec.shiftLeft_xor_distrib]
  cases a.msb <;> cases b.msb
  case true.true =>
    calc a <<< 1 ^^^ b <<< 1
        = (a <<< 1 ^^^ b <<< 1) ^^^ (0x3000#16 ^^^ 0x3000#16) := by rw [BitVec.xor_self, BitVec.xor_zero]
      _ = (a <<< 1 ^^^ 0x3000#16) ^^^ (b <<< 1 ^^^ 0x3000#16) := by ac_rfl
  case false.false => rfl
  case false.true => exact BitVec.xor_assoc _ _ _
  case true.false =>
    change (a <<< 1 ^^^ b <<< 1) ^^^ 0x3000#16 = (a <<< 1 ^^^ 0x3000#16) ^^^ b <<< 1
    ac_rfl

theorem crcShifts_xor (n : Nat) (a b : Word) : crcShifts n (a ^^^ b) = crcShifts n a ^^^ crcShifts n b := by
  induction n generalizing a b with
  | zero => rfl
  | succ n ih => rw [crcShifts, crcShift_xor, ih, crcShifts, crcShifts]

theorem crcByte_xor (r r' : Word) (b b' : Byte) : crcByte (r ^^^ r') (b ^^^ b') = crcByte r b ^^^ crcByte r' b' := by
  rw [crcByte, crcByte, crcByte, ← crcShifts_xor, BitVec.setWidth_xor]
  congr 1
  ac_rfl

theorem crcWord_xor (r r' w w' : Word) : crcWord (r ^^^ r') (w ^^^ w') = crcWord r w ^^^ crcWord r' w' := by
  simp only [crcWord, BitVec.extractLsb'_xor, crcByte_xor]

/-- A remainder whose top bit is clear is only shifted. -/
theorem crcShift_of_lt {r : Word} (h : r.toNat < 2 ^ 15) : crcShift r = r <<< 1 := by
  rw [crcShift, BitVec.msb_eq_false_iff_two_mul_lt.mpr (by omega)]
  rfl

/-- While the set bits stay below bit 15, the shifts meet no feedback. -/
theorem crcShifts_of_lt {n : Nat} {r : Word} (hn : n ≤ 16) (h : r.toNat < 2 ^ (16 - n)) :
    crcShifts n r = r <<< n := by
  induction n generalizing r with
  | zero => exact (BitVec.shiftLeft_zero r).symm
  | succ n ih =>
    have hpow : 2 ^ (16 - n) = 2 * 2 ^ (16 - (n + 1)) := by
      rw [← Nat.pow_succ']; congr 1; omega
    have htop : 2 ^ (16 - (n + 1)) ≤ 2 ^ 15 := Nat.pow_le_pow_right (by omega) (by omega)
    have hshift : (r <<< 1).toNat = 2 * r.toNat := by
      rw [BitVec.toNat_shiftLeft, Nat.shiftLeft_eq]; omega
    rw [crcShifts, crcShift_of_lt (by omega), ih (by omega) (by omega), ← BitVec.shiftLeft_add, Nat.add_comm]

theorem crcByte_zero (b : Byte) : crcByte 0#16 b = b ++ 0#8 := by
  have hlt : (b.setWidth 16).toNat < 2 ^ (16 - 8) := by
    rw [BitVec.toNat_setWidth]; omega
  have happend : b.setWidth 16 <<< 8 = b ++ 0#8 := by
    apply BitVec.eq_of_toNat_eq
    rw [BitVec.toNat_shiftLeft, BitVec.toNat_setWidth, BitVec.toNat_append, BitVec.toNat_ofNat, Nat.zero_mod,
      Nat.or_zero, Nat.shiftLeft_eq, Nat.shiftLeft_eq]
    omega
  rw [crcByte, BitVec.zero_xor, crcShifts_of_lt (by decide) hlt, happend]

theorem crcWord_zero_lowByte (b : Byte) : crcWord 0#16 (0#8 ++ b) = b ++ 0#8 := by
  rw [crcWord, BitVec.extractLsb'_append_eq_left, BitVec.extractLsb'_append_eq_right, crcByte_zero]
  exact crcByte_zero b

theorem crcWord_zero : crcWord 0#16 0#16 = 0#16 :=
  crcWord_zero_lowByte 0#8

/-- R108's reason: a nibble at bits 7:4 of a word arrives at bits 15:12 of the remainder. -/
theorem crcWord_zero_nibble (n : Nibble) : (crcWord 0#16 (0#8 ++ n ++ 0#4)).extractLsb' 12 4 = n := by
  have hword : crcWord 0#16 (0#8 ++ n ++ 0#4) = n ++ 0#4 ++ 0#8 := by
    rw [← crcWord_zero_lowByte (n ++ 0#4), BitVec.append_assoc]
    rfl
  rw [hword, BitVec.extractLsb'_append_eq_of_le (by decide), BitVec.extractLsb'_append_eq_of_le (by decide)]
  exact BitVec.extractLsb'_eq_self

/-! The checksum of a list of words (R105). -/

theorem crc4_finalXor (words : List Word) (x : Nibble) : crc4 words x = crc4 words 0#4 ^^^ x := by
  rw [crc4, crc4, BitVec.xor_zero]

/-- XORing a nibble into bits 7:4 of the last word XORs it into the checksum (R108). -/
theorem crc4_concat_xor_nibble (words : List Word) (w : Word) (n x : Nibble) :
    crc4 (words ++ [w ^^^ (0#8 ++ n ++ 0#4)]) x = crc4 (words ++ [w]) x ^^^ n := by
  have hrem : crcRemainder (words ++ [w ^^^ (0#8 ++ n ++ 0#4)]) =
      crcRemainder (words ++ [w]) ^^^ crcWord 0#16 (0#8 ++ n ++ 0#4) := by
    rw [crcRemainder, crcRemainder, List.foldl_concat, List.foldl_concat, ← crcWord_xor, BitVec.xor_zero]
  rw [crc4, crc4, hrem, BitVec.extractLsb'_xor, crcWord_zero_nibble]
  ac_rfl

/-- A zero word in front leaves the remainder at 0 (R105). -/
theorem crc4_zero_cons (words : List Word) (x : Nibble) : crc4 (0#16 :: words) x = crc4 words x := by
  rw [crc4, crc4, crcRemainder, crcRemainder, List.foldl_cons, crcWord_zero]

theorem crc4_zeros_append (n : Nat) (words : List Word) (x : Nibble) :
    crc4 (List.replicate n 0#16 ++ words) x = crc4 words x := by
  induction n with
  | zero => rfl
  | succ n ih => rw [List.replicate_succ, List.cons_append, crc4_zero_cons, ih]

/-- Settles O32: all-zero words are zero words in front of the empty list, whose remainder is 0. -/
theorem zeroWordsDoNotMoveTheChecksum : Obligations.ZeroWordsDoNotMoveTheChecksum := by
  intro n words x
  refine ⟨?_, crc4_zeros_append n words x⟩
  have hempty := crc4_zeros_append n [] x
  rw [List.append_nil] at hempty
  exact hempty.trans BitVec.zero_xor

/-! The word lists of R104, by the fields of W7. -/

/-- Bits 15:4 of a word are its high byte and the high nibble of its low byte. -/
theorem extractLsb'_high_eq_fields (w : Word) : w.extractLsb' 8 8 ++ w.extractLsb' 4 4 = w.extractLsb' 4 12 :=
  BitVec.extractLsb'_append_extractLsb'_eq_extractLsb' (start₁ := 4) (len₁ := 4) rfl

/-- A word is its high byte and the two nibbles of its low byte. -/
theorem word_eq_fields (w : Word) : w.extractLsb' 8 8 ++ w.extractLsb' 4 4 ++ w.extractLsb' 0 4 = w := by
  rw [extractLsb'_high_eq_fields,
    BitVec.extractLsb'_append_extractLsb'_eq_extractLsb' (start₁ := 0) (len₁ := 4) rfl]
  exact BitVec.extractLsb'_eq_self

theorem highFields_of_extractLsb'_eq {w w' : Word} (h : w'.extractLsb' 4 12 = w.extractLsb' 4 12) :
    w'.extractLsb' 8 8 = w.extractLsb' 8 8 ∧ w'.extractLsb' 4 4 = w.extractLsb' 4 4 := by
  rw [← extractLsb'_high_eq_fields, ← extractLsb'_high_eq_fields] at h
  have hhi := congrArg (BitVec.extractLsb' 4 8) h
  have hn := congrArg (BitVec.extractLsb' 0 4) h
  rw [BitVec.extractLsb'_append_eq_left, BitVec.extractLsb'_append_eq_left] at hhi
  rw [BitVec.extractLsb'_append_eq_right, BitVec.extractLsb'_append_eq_right] at hn
  exact ⟨hhi, hn⟩

/-- The fields of a word whose low byte has this high and this low nibble. -/
theorem lowByte_fields (n lo : Nibble) :
    (0#8 ++ n ++ lo).extractLsb' 8 8 = 0#8 ∧ (0#8 ++ n ++ lo).extractLsb' 4 4 = n ∧
      (0#8 ++ n ++ lo).extractLsb' 0 4 = lo := by
  refine ⟨?_, ?_, ?_⟩
  · rw [BitVec.extractLsb'_append_eq_of_le (by decide)]
    exact BitVec.extractLsb'_append_eq_left
  · rw [BitVec.extractLsb'_append_eq_of_le (by decide)]
    exact BitVec.extractLsb'_append_eq_right
  · exact BitVec.extractLsb'_append_eq_right

/-- Masking a word masks its fields. -/
theorem word_and_fields (w : Word) (hi : Byte) (n lo : Nibble) :
    w &&& (hi ++ n ++ lo) = (w.extractLsb' 8 8 &&& hi) ++ (w.extractLsb' 4 4 &&& n) ++ (w.extractLsb' 0 4 &&& lo) := by
  rw [← BitVec.and_append, ← BitVec.and_append, word_eq_fields]

theorem and_doc7Mask (w : Word) : w &&& 0xFFF0#16 = w.extractLsb' 8 8 ++ w.extractLsb' 4 4 ++ 0#4 := by
  have hmask : 0xFFF0#16 = BitVec.allOnes 8 ++ BitVec.allOnes 4 ++ 0#4 := by decide
  rw [hmask, word_and_fields, BitVec.and_allOnes, BitVec.and_allOnes, BitVec.and_zero]

theorem and_datasheet8Mask (w : Word) : w &&& 0xFF00#16 = w.extractLsb' 8 8 ++ 0#4 ++ 0#4 := by
  have hmask : 0xFF00#16 = BitVec.allOnes 8 ++ 0#4 ++ 0#4 := by decide
  rw [hmask, word_and_fields, BitVec.and_allOnes, BitVec.and_zero, BitVec.and_zero]

/-- The words of the calibration registers (R104). -/
def Calib.words (c : Calib) : List Word :=
  [c.c1, c.c2, c.c3, c.c4, c.c5, c.c6]

theorem crcWordList_doc7 (w0 : Word) (c : Calib) (w7 : Word) :
    crcWordList .doc7 w0 c w7 = c.words ++ [w7.extractLsb' 8 8 ++ w7.extractLsb' 4 4 ++ 0#4] := by
  rw [crcWordList, and_doc7Mask]
  rfl

theorem crcWordList_datasheet8 (w0 : Word) (c : Calib) (w7 : Word) :
    crcWordList .datasheet8 w0 c w7 = w0 :: c.words ++ [w7.extractLsb' 8 8 ++ 0#4 ++ 0#4] := by
  rw [crcWordList, and_datasheet8Mask]
  rfl

/-- Neither word list holds W7[3:0] (R104). -/
theorem crcWordList_congr {w w' : Word} (h : w'.extractLsb' 4 12 = w.extractLsb' 4 12) (words : CrcWordSet) (w0 : Word)
    (c : Calib) : crcWordList words w0 c w' = crcWordList words w0 c w := by
  obtain ⟨hhi, hn⟩ := highFields_of_extractLsb'_eq h
  cases words with
  | doc7 => rw [crcWordList_doc7, crcWordList_doc7, hhi, hn]
  | datasheet8 => rw [crcWordList_datasheet8, crcWordList_datasheet8, hhi]

/-- Settles O31: with W7[7:4] = 0 the lists' last words are the same. -/
theorem wordListsAgreeOnZeroWords : Obligations.WordListsAgreeOnZeroWords := by
  intro c w7 x hnibble
  have hlist : crcWordList .datasheet8 0#16 c w7 = 0#16 :: crcWordList .doc7 0#16 c w7 := by
    rw [crcWordList_datasheet8, crcWordList_doc7, hnibble]
    rfl
  exact ⟨by rw [hlist, crc4_zero_cons], hlist⟩

/-! W7[7:4] in the checksum (R108). -/

/-- R108's h: the DOC7 checksum of an image whose W7 has this high byte and a low byte of 0, with CRC_FINAL_XOR = 0. -/
def doc7ChecksumBase (c : Calib) (hi : Byte) : Nibble :=
  crc4 (c.words ++ [hi ++ 0#4 ++ 0#4]) 0#4

theorem crc4_doc7 (w0 : Word) (c : Calib) (w7 : Word) (x : Nibble) :
    crc4 (crcWordList .doc7 w0 c w7) x = doc7ChecksumBase c (w7.extractLsb' 8 8) ^^^ w7.extractLsb' 4 4 ^^^ x := by
  have hlast : w7.extractLsb' 8 8 ++ w7.extractLsb' 4 4 ++ 0#4 =
      (w7.extractLsb' 8 8 ++ 0#4 ++ 0#4) ^^^ (0#8 ++ w7.extractLsb' 4 4 ++ 0#4) := by
    rw [BitVec.xor_append, BitVec.xor_append, BitVec.xor_zero, BitVec.zero_xor, BitVec.xor_zero]
  rw [crcWordList_doc7, hlast, crc4_concat_xor_nibble, crc4_finalXor, doc7ChecksumBase]
  ac_rfl

/-- XORing into W7[7:4] XORs into the DOC7 checksum, whatever is XORed into W7[3:0] (R108). -/
theorem crc4_doc7_xor_lowByte (w0 : Word) (c : Calib) (w7 : Word) (x n lo : Nibble) :
    crc4 (crcWordList .doc7 w0 c (w7 ^^^ (0#8 ++ n ++ lo))) x = crc4 (crcWordList .doc7 w0 c w7) x ^^^ n := by
  obtain ⟨hhi, hn, -⟩ := lowByte_fields n lo
  rw [crc4_doc7, crc4_doc7, BitVec.extractLsb'_xor, BitVec.extractLsb'_xor, hhi, hn, BitVec.xor_zero]
  ac_rfl

/-- Settles O30: the nibble is XORed into the DOC7 checksum, and the DATASHEET8 list does not hold it. -/
theorem highNibbleOfTheLowByteInTheChecksum : Obligations.HighNibbleOfTheLowByteInTheChecksum := by
  refine ⟨⟨doc7ChecksumBase, crc4_doc7⟩, fun w0 c w7 x d hd => ?_, fun w0 c w7 x d hpass => ?_,
    fun w0 c w7 x d => ?_⟩
  · rw [crc4_doc7_xor_lowByte]
    intro heq
    exact hd ((BitVec.xor_right_inj _).mp (heq.trans BitVec.xor_zero.symm))
  · obtain ⟨-, -, hlo⟩ := lowByte_fields d d
    rw [crc4_doc7_xor_lowByte, hpass, BitVec.extractLsb'_xor, hlo]
  · obtain ⟨hhi, -, -⟩ := lowByte_fields d 0#4
    rw [crcWordList_datasheet8, crcWordList_datasheet8, BitVec.extractLsb'_xor, hhi, BitVec.xor_zero]

/-! The validation (R106, R107). -/

/-- Settles O28: both outcomes of the comparison end the running INIT; VALID is 0 all through it. -/
theorem validationComparesTheChecksums : Obligations.ValidationComparesTheChecksums := by
  intro s hhost hpos
  have hrun : s.seq.requestCode = some 0x1#4 := by rw [hpos]; rfl
  have hstep : step s = .next (validateStep s) := by
    rw [step_of_no_move hhost, sequencerState, hpos]
  rw [hstep]
  rcases validateStep_cases s with ⟨hmatch, h⟩ | ⟨hdiffer, h⟩ <;> rw [h]
  · refine ⟨fun _ => ?_, fun hne => absurd hmatch hne, fun hinv => hinv.not_valid hpos⟩
    rw [State.finish_of_running (code := 0x1#4) _ _ (by exact hrun)]
    rfl
  · refine ⟨fun heq => absurd heq hdiffer, fun _ => ?_, fun hinv => hinv.not_valid hpos⟩
    rw [State.raise, State.finish_of_running (code := 0x1#4) _ _ (by exact hrun)]
    rfl

/-- The stored checksum takes no part in the computed one (R104). -/
theorem imageCrc_of_alteredChecksum {s : State} {w7 : Word} (k : Nibble)
    (h : w7.extractLsb' 4 12 = s.w7.extractLsb' 4 12) : { s with w7 := w7, crcStored := k }.imageCrc = s.imageCrc := by
  change crc4 (crcWordList s.cfg.crcWordSet s.w0 s.c w7) s.cfg.crcFinalXor = s.imageCrc
  rw [crcWordList_congr h, State.imageCrc]

/-- Settles O29: the computed checksum stays and the stored one does not, so that they differ. -/
theorem alteredStoredChecksumIsRejected : Obligations.AlteredStoredChecksumIsRejected := by
  intro s w7 hhost hpos hstored hpass hhigh hne
  have hcrc := imageCrc_of_alteredChecksum (w7.extractLsb' 0 4) hhigh
  have hlow : s.w7.extractLsb' 0 4 ≠ w7.extractLsb' 0 4 := by
    intro hlow
    obtain ⟨hhi, hn⟩ := highFields_of_extractLsb'_eq hhigh
    exact hne (by rw [← word_eq_fields w7, hhi, hn, ← hlow, word_eq_fields])
  have hdiffer : { s with w7 := w7, crcStored := w7.extractLsb' 0 4 }.imageCrc ≠ w7.extractLsb' 0 4 := by
    rwa [hcrc, hpass, hstored]
  obtain ⟨-, hreject, -⟩ :=
    validationComparesTheChecksums { s with w7 := w7, crcStored := w7.extractLsb' 0 4 } hhost hpos
  exact ⟨_, hreject hdiffer, rfl, rfl, hcrc⟩

end Sys2Proof.Machine
end

section
/-! PROOFS. The family '41_raw_sample.md': the conversion commands (R120, R121). -/

namespace Sys2Proof.Machine

/-- A conversion command that is acknowledged writes PEND, for either channel, and the sensor starts that conversion
with the result register overwritten (R35). -/
theorem State.convert_of_ok {s : State} {ch : Channel} {b0 b1 b2 : Byte}
    (hok : s.busAnswer (convCommand ch) = .ok b0 b1 b2) :
    s.convert ch = { s.movedOn (.write s.cfg.devAddr (convCommand ch) true) with
      pend := Pend.ofChannel ch
      sensor := ((s.transacted (.write s.cfg.devAddr (convCommand ch) true)).startConversion ch).sensor } := by
  rw [convert, memWrite_of_ok _ hok]
  rfl

/-- The sensor that such a command leaves keeps its PROM and converts the command's channel. -/
theorem State.convert_sets_pend {s : State} {ch : Channel} {b0 b1 b2 : Byte}
    (hok : s.busAnswer (convCommand ch) = .ok b0 b1 b2) :
    ∃ sensor : Sensor, sensor.prom = s.sensor.prom ∧ sensor.conversion.map Conversion.channel = some ch ∧
      s.convert ch = { s.movedOn (.write s.cfg.devAddr (convCommand ch) true) with
        pend := Pend.ofChannel ch, sensor := sensor } := by
  refine ⟨_, ?prom, ?channel, convert_of_ok hok⟩
  case prom => rfl
  case channel => rfl

/-- Settles O23: both commands are the conversion command of their channel. -/
theorem conversionCommandSetsPend : Obligations.ConversionCommandSetsPend := by
  refine fun s b0 b1 b2 => ⟨fun hok => ?_, fun hok => ?_⟩
  · obtain ⟨sensor, hprom, hchannel, h⟩ := State.convert_sets_pend (ch := .pressure) hok
    exact ⟨sensor, hprom, hchannel, congrArg Host.Outcome.next h⟩
  · obtain ⟨sensor, hprom, hchannel, h⟩ := State.convert_sets_pend (ch := .temperature) hok
    exact ⟨sensor, hprom, hchannel, congrArg Host.Outcome.next h⟩

end Sys2Proof.Machine
end

section
/-! PROOFS. The family '42_compensation.md': the single formulas against R154, their ranges over all inputs, the width
of a datapath (R157), and the compute steps (R158). -/

namespace Sys2Proof.Machine

/-! The second-order terms by range of the uncorrected TEMP (R143 to R148). -/

theorem second_of_warm {temp : Int} (h : 2000 ≤ temp) : second temp = (0, 0) := by
  simp [second, cold, h]

theorem second_of_cold {temp : Int} (hvery : -1500 ≤ temp) (hcold : temp < 2000) :
    second temp = (tdiv (5 * (temp - 2000) ^ 2) 2, tdiv (5 * (temp - 2000) ^ 2) 4) := by
  simp [second, cold, veryCold, hcold, hvery]

theorem second_of_veryCold {temp : Int} (h : temp < -1500) :
    second temp = (tdiv (5 * (temp - 2000) ^ 2) 2 + 7 * (temp + 1500) ^ 2,
      tdiv (5 * (temp - 2000) ^ 2) 4 + tdiv (11 * (temp + 1500) ^ 2) 2) := by
  have hcold : temp < 2000 := by omega
  simp [second, cold, veryCold, hcold, h]

/-- Settles O36: the two ranges below the warm branch. -/
theorem secondOrderTermsByRange : Obligations.SecondOrderTermsByRange :=
  fun _ => ⟨second_of_cold, second_of_veryCold⟩

theorem off2Of_eq_ite (temp : Int) : off2Of temp =
    if temp < 2000 then
      if temp < -1500 then tdiv (5 * (temp - 2000) ^ 2) 2 + 7 * (temp + 1500) ^ 2 else tdiv (5 * (temp - 2000) ^ 2) 2
    else 0 := by
  simp only [off2Of, ← not_lt, ite_not]

theorem sens2Of_eq_ite (temp : Int) : sens2Of temp =
    if temp < 2000 then
      if temp < -1500 then tdiv (5 * (temp - 2000) ^ 2) 4 + tdiv (11 * (temp + 1500) ^ 2) 2
      else tdiv (5 * (temp - 2000) ^ 2) 4
    else 0 := by
  simp only [sens2Of, ← not_lt, ite_not]

/-- The pair that R154 computes is the OFF2 and the SENS2 of the single rules. -/
theorem second_eq (temp : Int) : second temp = (off2Of temp, sens2Of temp) := by
  rcases lt_or_ge temp (-1500) with hvery | hnotVery
  · have hcold : temp < 2000 := by omega
    simp [second_of_veryCold hvery, off2Of_eq_ite, sens2Of_eq_ite, hcold, hvery]
  · rcases lt_or_ge temp 2000 with hcold | hwarm
    · simp [second_of_cold hnotVery hcold, off2Of_eq_ite, sens2Of_eq_ite, hcold, hnotVery.not_gt]
    · simp [second_of_warm hwarm, off2Of_eq_ite, sens2Of_eq_ite, hwarm.not_gt]

/-! CompT and CompP of R154 against the single formulas. -/

theorem t2Of_of_warm {c : Calib} {d2 : Sample} (h : 2000 ≤ tempOf c d2) : t2Of c d2 = 0 := by
  simp [t2Of, h]

theorem compT_eq_tempOutOf (c : Calib) (d2 : Sample) : compT c d2 = tempOutOf c d2 := by
  simp [compT, tempOutOf, t2Of, cold, sq]

theorem compP_eq_pressureOf (c : Calib) (d1 d2 : Sample) : compP c d1 d2 = pressureOf c d1 d2 := by
  rw [compP, second_eq]
  rfl

/-- Settles O37: one equation per function. -/
theorem compensationIsTheComposedFormulas : Obligations.CompensationIsTheComposedFormulas :=
  fun c d1 d2 => ⟨compT_eq_tempOutOf c d2, compP_eq_pressureOf c d1 d2⟩

/-- Settles O35: with T2, OFF2 and SENS2 zero the adjusted values are the first-order ones. -/
theorem warmBranchHasNoCorrection : Obligations.WarmBranchHasNoCorrection := by
  intro c d1 d2 hwarm
  have ht2 := t2Of_of_warm hwarm
  have hsecond := second_of_warm hwarm
  refine ⟨ht2, hsecond, ?_, ?_⟩
  · rw [compT_eq_tempOutOf, tempOutOf, ht2, sub_zero]
  · simp only [compP, hsecond, sub_zero]
    rfl

/-! Intervals: the operations of the compensation take an interval of values to an interval. -/

theorem uint_range {w : Nat} (v : BitVec w) : 0 ≤ uint v ∧ uint v ≤ 2 ^ w - 1 := by
  have hlt : (v.toNat : Int) < 2 ^ w := by exact_mod_cast v.isLt
  exact ⟨Int.natCast_nonneg _, Int.le_sub_one_of_lt hlt⟩

/-- A product with a word or a sample, for an interval around 0: its ends are those at the greatest word. -/
theorem uint_mul_range {w : Nat} (v : BitVec w) {a lo hi : Int} (ha : lo ≤ a ∧ a ≤ hi) (hlo : lo ≤ 0)
    (hhi : 0 ≤ hi) :
    (2 ^ w - 1) * lo ≤ uint v * a ∧ uint v * a ≤ (2 ^ w - 1) * hi := by
  obtain ⟨hnonneg, hmax⟩ := uint_range v
  constructor
  · calc (2 ^ w - 1) * lo ≤ uint v * lo := mul_le_mul_of_nonpos_right hmax hlo
      _ ≤ uint v * a := mul_le_mul_of_nonneg_left ha.1 hnonneg
  · calc uint v * a ≤ uint v * hi := mul_le_mul_of_nonneg_left ha.2 hnonneg
      _ ≤ (2 ^ w - 1) * hi := mul_le_mul_of_nonneg_right hmax hhi

theorem sq_range {a m : Int} (ha : -m ≤ a ∧ a ≤ m) : 0 ≤ a ^ 2 ∧ a ^ 2 ≤ m ^ 2 :=
  ⟨sq_nonneg a, sq_le_sq' ha.1 ha.2⟩

/-- Truncating division is monotone, so the quotients of the end points bound the quotient. -/
theorem tdiv_range {a n lo hi qlo qhi : Int} (ha : lo ≤ a ∧ a ≤ hi) (hn : 0 < n) (hlo : tdiv lo n = qlo)
    (hhi : tdiv hi n = qhi) : qlo ≤ tdiv a n ∧ tdiv a n ≤ qhi := by
  subst hlo hhi
  exact ⟨Int.tdiv_le_tdiv hn ha.1, Int.tdiv_le_tdiv hn ha.2⟩

/-! The ranges of the single formulas over all inputs (R141 to R153). -/

section Ranges

variable (c : Calib) (d1 d2 : Sample)

theorem dTOf_range : -16776960 ≤ dTOf c d2 ∧ dTOf c d2 ≤ 16777215 := by
  have hd2 := uint_range d2
  have hc5 := uint_range c.c5
  unfold dTOf
  omega

theorem dTOf_mul_range : (2 ^ 16 - 1) * -16776960 ≤ dTOf c d2 * uint c.c6 ∧
    dTOf c d2 * uint c.c6 ≤ (2 ^ 16 - 1) * 16777215 := by
  rw [mul_comm (dTOf c d2)]
  exact uint_mul_range c.c6 (dTOf_range c d2) (by decide) (by decide)

theorem tempOf_range : -129068 ≤ tempOf c d2 ∧ tempOf c d2 ≤ 133069 := by
  have hquot : -131068 ≤ tdiv (dTOf c d2 * uint c.c6) (2 ^ 23) ∧ tdiv (dTOf c d2 * uint c.c6) (2 ^ 23) ≤ 131069 :=
    tdiv_range (dTOf_mul_range c d2) (by decide) (by decide) (by decide)
  unfold tempOf
  omega

theorem dTOf_sq_range : 0 ≤ dTOf c d2 ^ 2 ∧ dTOf c d2 ^ 2 ≤ 16777215 ^ 2 := by
  have hdT := dTOf_range c d2
  exact sq_range (by omega)

theorem t2Of_range : 0 ≤ t2Of c d2 ∧ t2Of c d2 ≤ 131071 := by
  unfold t2Of
  split
  · exact tdiv_range (dTOf_sq_range c d2) (by decide) (by decide) (by decide)
  · decide

theorem tempOutOf_range : -260139 ≤ tempOutOf c d2 ∧ tempOutOf c d2 ≤ 133069 := by
  have htemp := tempOf_range c d2
  have ht2 := t2Of_range c d2
  unfold tempOutOf
  omega

/-- The base terms of OFF2 and SENS2 (R146, R147), for a TEMP in the cold branch. -/
theorem coldTerms_range {temp : Int} (hmin : -129068 ≤ temp) (hcold : temp < 2000) :
    (0 ≤ tdiv (5 * (temp - 2000) ^ 2) 2 ∧ tdiv (5 * (temp - 2000) ^ 2) 2 ≤ 42947051560) ∧
    (0 ≤ tdiv (5 * (temp - 2000) ^ 2) 4 ∧ tdiv (5 * (temp - 2000) ^ 2) 4 ≤ 21473525780) := by
  have hsq : 0 ≤ (temp - 2000) ^ 2 ∧ (temp - 2000) ^ 2 ≤ 131068 ^ 2 := sq_range (by omega)
  have hprod : 0 ≤ 5 * (temp - 2000) ^ 2 ∧ 5 * (temp - 2000) ^ 2 ≤ 5 * 131068 ^ 2 := by omega
  exact ⟨tdiv_range hprod (by decide) (by decide) (by decide), tdiv_range hprod (by decide) (by decide) (by decide)⟩

/-- The extra terms of OFF2 and SENS2 (R148), for a TEMP in the very-cold branch. -/
theorem veryColdTerms_range {temp : Int} (hmin : -129068 ≤ temp) (hvery : temp < -1500) :
    (0 ≤ 7 * (temp + 1500) ^ 2 ∧ 7 * (temp + 1500) ^ 2 ≤ 113915162368) ∧
    (0 ≤ tdiv (11 * (temp + 1500) ^ 2) 2 ∧ tdiv (11 * (temp + 1500) ^ 2) 2 ≤ 89504770432) := by
  have hsq : 0 ≤ (temp + 1500) ^ 2 ∧ (temp + 1500) ^ 2 ≤ 127568 ^ 2 := sq_range (by omega)
  have hprod : 0 ≤ 11 * (temp + 1500) ^ 2 ∧ 11 * (temp + 1500) ^ 2 ≤ 11 * 127568 ^ 2 := by omega
  exact ⟨by omega, tdiv_range hprod (by decide) (by decide) (by decide)⟩

/-- OFF2 and SENS2 lie between 0 and their values at the least TEMP. -/
theorem secondOrder_range {temp : Int} (hmin : -129068 ≤ temp) :
    (0 ≤ off2Of temp ∧ off2Of temp ≤ 156862213928) ∧ (0 ≤ sens2Of temp ∧ sens2Of temp ≤ 110978296212) := by
  unfold off2Of sens2Of
  split_ifs with hwarm hvery
  · decide
  · have hbase := coldTerms_range hmin (by omega)
    have hextra := veryColdTerms_range hmin hvery
    omega
  · have hbase := coldTerms_range hmin (by omega)
    omega

theorem offOf_range : -8589672450 ≤ offOf c d2 ∧ offOf c d2 ≤ 12884704768 := by
  have hc2 := uint_range c.c2
  have hquot : -8589672450 ≤ tdiv (uint c.c4 * dTOf c d2) (2 ^ 7) ∧
      tdiv (uint c.c4 * dTOf c d2) (2 ^ 7) ≤ 8589803008 :=
    tdiv_range (uint_mul_range c.c4 (dTOf_range c d2) (by decide) (by decide)) (by decide) (by decide) (by decide)
  unfold offOf
  omega

theorem sensOf_range : -4294836225 ≤ sensOf c d2 ∧ sensOf c d2 ≤ 6442352384 := by
  have hc1 := uint_range c.c1
  have hquot : -4294836225 ≤ tdiv (uint c.c3 * dTOf c d2) (2 ^ 8) ∧
      tdiv (uint c.c3 * dTOf c d2) (2 ^ 8) ≤ 4294901504 :=
    tdiv_range (uint_mul_range c.c3 (dTOf_range c d2) (by decide) (by decide)) (by decide) (by decide) (by decide)
  unfold sensOf
  omega

theorem offAdjOf_range : -165451886378 ≤ offAdjOf c d2 ∧ offAdjOf c d2 ≤ 12884704768 := by
  have hoff := offOf_range c d2
  obtain ⟨hoff2, -⟩ := secondOrder_range (tempOf_range c d2).1
  unfold offAdjOf
  omega

theorem sensAdjOf_range : -115273132437 ≤ sensAdjOf c d2 ∧ sensAdjOf c d2 ≤ 6442352384 := by
  have hsens := sensOf_range c d2
  obtain ⟨-, hsens2⟩ := secondOrder_range (tempOf_range c d2).1
  unfold sensAdjOf
  omega

theorem sensProduct_range : (2 ^ 24 - 1) * -115273132437 ≤ uint d1 * sensAdjOf c d2 ∧
    uint d1 * sensAdjOf c d2 ≤ (2 ^ 24 - 1) * 6442352384 :=
  uint_mul_range d1 (sensAdjOf_range c d2) (by decide) (by decide)

theorem scaledOf_range : -922185004529 ≤ scaledOf c d1 d2 ∧ scaledOf c d1 d2 ≤ 51538816000 :=
  tdiv_range (sensProduct_range c d1 d2) (by decide) (by decide) (by decide)

theorem pressureOf_range : -28536062 ≤ pressureOf c d1 d2 ∧ pressureOf c d1 d2 ≤ 6622030 := by
  have hscaled := scaledOf_range c d1 d2
  have hoff := offAdjOf_range c d2
  have hdiff : -922185004529 - 12884704768 ≤ scaledOf c d1 d2 - offAdjOf c d2 ∧
      scaledOf c d1 d2 - offAdjOf c d2 ≤ 51538816000 + 165451886378 := by omega
  exact tdiv_range hdiff (by decide) (by decide) (by decide)

end Ranges

/-- Settles O34: the quotients of both ends of the interval are 0. -/
theorem smallProductsGiveReferenceTemperature : Obligations.SmallProductsGiveReferenceTemperature := by
  intro c d2 hsmall
  have hprod : -(2 ^ 23 - 1) ≤ dTOf c d2 * uint c.c6 ∧ dTOf c d2 * uint c.c6 ≤ 2 ^ 23 - 1 := by omega
  have hquot : 0 ≤ tdiv (dTOf c d2 * uint c.c6) (2 ^ 23) ∧ tdiv (dTOf c d2 * uint c.c6) (2 ^ 23) ≤ 0 :=
    tdiv_range hprod (by decide) (by decide) (by decide)
  unfold tempOf
  omega

/-- Settles O38: the ranges of the single formulas, which R154 composes. -/
theorem compensationRanges : Obligations.CompensationRanges := by
  intro c d1 d2
  rw [compT_eq_tempOutOf, compP_eq_pressureOf]
  exact ⟨dTOf_range c d2, tempOf_range c d2, t2Of_range c d2, tempOutOf_range c d2, pressureOf_range c d1 d2⟩

/-! Every intermediate is bounded (R157). -/

/-- A truncated quotient is no larger than its dividend. -/
theorem natAbs_tdiv_le {a : Int} {bound : Nat} (n : Int) (ha : a.natAbs ≤ bound) : (tdiv a n).natAbs ≤ bound :=
  (Int.natAbs_tdiv_le_natAbs a n).trans ha

/-- Settles O39: the product D1 * SENS_adj is the largest, at the least SENS_adj and the greatest D1. -/
theorem intermediatesAreBounded : Obligations.IntermediatesAreBounded := by
  intro c d1 d2
  have hdT := dTOf_range c d2
  have htemp := tempOf_range c d2
  have ⟨hoff2, hsens2⟩ := secondOrder_range htemp.1
  simp only [intermediates, List.forall_mem_append, List.forall_mem_cons, List.not_mem_nil, false_imp_iff,
    implies_true, and_true]
  refine ⟨⟨⟨?temperature, ?secondOrder⟩, ?firstOrder⟩, ?adjusted⟩
  case temperature =>
    have hc5 := uint_range c.c5
    have hprod := dTOf_mul_range c d2
    have hsq := dTOf_sq_range c d2
    have ht2 := t2Of_range c d2
    have htempOut := tempOutOf_range c d2
    rw [← sq]
    refine ⟨?_, ?_, ?_, natAbs_tdiv_le _ ?_, ?_, ?_, ?_, ?_⟩ <;> omega
  case secondOrder =>
    have hx : 0 ≤ (tempOf c d2 - 2000) ^ 2 ∧ (tempOf c d2 - 2000) ^ 2 ≤ 131069 ^ 2 := sq_range (by omega)
    have hy : 0 ≤ (tempOf c d2 + 1500) ^ 2 ∧ (tempOf c d2 + 1500) ^ 2 ≤ 134569 ^ 2 := sq_range (by omega)
    refine ⟨?_, ?_, ?_, natAbs_tdiv_le _ ?_, natAbs_tdiv_le _ ?_, ?_, ?_, ?_, ?_, natAbs_tdiv_le _ ?_, ?_, ?_⟩ <;>
      omega
  case firstOrder =>
    have hc1 := uint_range c.c1
    have hc2 := uint_range c.c2
    have hprod3 := uint_mul_range c.c3 hdT (by decide) (by decide)
    have hprod4 := uint_mul_range c.c4 hdT (by decide) (by decide)
    have hoff := offOf_range c d2
    have hsens := sensOf_range c d2
    refine ⟨?_, ?_, natAbs_tdiv_le _ ?_, ?_, ?_, ?_, natAbs_tdiv_le _ ?_, ?_⟩ <;> omega
  case adjusted =>
    have hoffAdj := offAdjOf_range c d2
    have hsensAdj := sensAdjOf_range c d2
    have hprod := sensProduct_range c d1 d2
    have hscaled := scaledOf_range c d1 d2
    have hpressure := pressureOf_range c d1 d2
    and_intros <;> omega

/-! The 64-bit datapath (R157). Its additions, subtractions and products are those of the integers modulo 2^64; what
the divisions and comparisons need is that their operands fit, as every intermediate does. -/

theorem ofInt_uint {w : Nat} (v : BitVec w) : BitVec.ofInt 64 (uint v) = v.setWidth 64 := by
  rw [uint, BitVec.ofInt_natCast, BitVec.ofNat_toNat]

theorem ofInt_sub (a b : Int) : BitVec.ofInt 64 (a - b) = BitVec.ofInt 64 a - BitVec.ofInt 64 b := by
  rw [sub_eq_add_neg, BitVec.ofInt_add, BitVec.ofInt_neg, BitVec.sub_eq_add_neg]

theorem toInt_ofInt64 {a : Int} (ha : a.natAbs < 2 ^ 63) : (BitVec.ofInt 64 a).toInt = a :=
  BitVec.toInt_ofInt_eq_self (by decide) (by omega) (by omega)

theorem ofInt_tdiv {a n : Int} (ha : a.natAbs < 2 ^ 63) (hn : n.natAbs < 2 ^ 63) :
    BitVec.ofInt 64 (tdiv a n) = (BitVec.ofInt 64 a).sdiv (BitVec.ofInt 64 n) := by
  apply BitVec.eq_of_toInt_eq
  rw [BitVec.toInt_sdiv, toInt_ofInt64 ha, toInt_ofInt64 hn, BitVec.toInt_ofInt, tdiv]

/-- A signed comparison of the datapath, here with a constant `y` that stands for the integer `b`. -/
theorem slt_ofInt {a b : Int} {y : Wide} (hy : BitVec.ofInt 64 b = y) (ha : a.natAbs < 2 ^ 63)
    (hb : b.natAbs < 2 ^ 63) :
    (BitVec.ofInt 64 a).slt y = decide (a < b) := by
  rw [← hy, BitVec.slt_eq_decide, toInt_ofInt64 ha, toInt_ofInt64 hb]

section Datapath

variable (c : Calib) (d1 d2 : Sample)

theorem natAbs_lt_of_mem_intermediates {v : Int} (h : v ∈ intermediates c d1 d2) : v.natAbs < 2 ^ 63 :=
  (intermediatesAreBounded c d1 d2 v h).trans_lt (by decide)

theorem ofInt_dTOf : BitVec.ofInt 64 (dTOf c d2) = d2.setWidth 64 - c.c5.setWidth 64 * 256#64 := by
  rw [dTOf, ofInt_sub, BitVec.ofInt_mul, ofInt_uint, ofInt_uint]
  rfl

theorem ofInt_tempOf : BitVec.ofInt 64 (tempOf c d2) =
    2000#64 + (BitVec.ofInt 64 (dTOf c d2) * c.c6.setWidth 64).sdiv 8388608#64 := by
  have hprod : (dTOf c d2 * uint c.c6).natAbs < 2 ^ 63 :=
    natAbs_lt_of_mem_intermediates c 0#24 d2 (by simp [intermediates])
  rw [tempOf, BitVec.ofInt_add, ofInt_tdiv hprod (by decide), BitVec.ofInt_mul, ofInt_uint]
  rfl

theorem tempOf_natAbs_lt : (tempOf c d2).natAbs < 2 ^ 63 :=
  natAbs_lt_of_mem_intermediates c 0#24 d2 (by simp [intermediates])

theorem slt_cold : (BitVec.ofInt 64 (tempOf c d2)).slt 2000#64 = decide (tempOf c d2 < 2000) :=
  slt_ofInt rfl (tempOf_natAbs_lt c d2) (by decide)

theorem slt_veryCold : (BitVec.ofInt 64 (tempOf c d2)).slt (-1500#64) = decide (tempOf c d2 < -1500) :=
  slt_ofInt rfl (tempOf_natAbs_lt c d2) (by decide)

theorem ofInt_t2Of : BitVec.ofInt 64 (t2Of c d2) =
    if (BitVec.ofInt 64 (tempOf c d2)).slt 2000#64 then
      (BitVec.ofInt 64 (dTOf c d2) * BitVec.ofInt 64 (dTOf c d2)).sdiv 2147483648#64
    else 0#64 := by
  have hsq : (dTOf c d2 * dTOf c d2).natAbs < 2 ^ 63 :=
    natAbs_lt_of_mem_intermediates c 0#24 d2 (by simp [intermediates])
  simp only [t2Of, slt_cold, decide_eq_true_eq, apply_ite (BitVec.ofInt 64), sq]
  rw [ofInt_tdiv hsq (by decide), BitVec.ofInt_mul]
  rfl

theorem ofInt_five_mul_sq_sub (temp : Int) : BitVec.ofInt 64 (5 * (temp - 2000) ^ 2) =
    5#64 * ((BitVec.ofInt 64 temp - 2000#64) * (BitVec.ofInt 64 temp - 2000#64)) := by
  rw [sq, BitVec.ofInt_mul, BitVec.ofInt_mul, ofInt_sub]
  rfl

theorem ofInt_mul_sq_add (k temp : Int) : BitVec.ofInt 64 (k * (temp + 1500) ^ 2) =
    BitVec.ofInt 64 k * ((BitVec.ofInt 64 temp + 1500#64) * (BitVec.ofInt 64 temp + 1500#64)) := by
  rw [sq, BitVec.ofInt_mul, BitVec.ofInt_mul, BitVec.ofInt_add]
  rfl

theorem ofInt_off2Of : BitVec.ofInt 64 (off2Of (tempOf c d2)) =
    let temp := BitVec.ofInt 64 (tempOf c d2)
    let x := (temp - 2000#64) * (temp - 2000#64)
    let y := (temp + 1500#64) * (temp + 1500#64)
    if temp.slt 2000#64 then
      if temp.slt (-1500#64) then (5#64 * x).sdiv 2#64 + 7#64 * y else (5#64 * x).sdiv 2#64
    else 0#64 := by
  have hbase : (5 * (tempOf c d2 - 2000) ^ 2).natAbs < 2 ^ 63 :=
    natAbs_lt_of_mem_intermediates c 0#24 d2 (by simp [intermediates])
  simp only [off2Of_eq_ite, slt_cold, slt_veryCold, decide_eq_true_eq, apply_ite (BitVec.ofInt 64), BitVec.ofInt_add]
  rw [ofInt_tdiv hbase (by decide), ofInt_five_mul_sq_sub, ofInt_mul_sq_add]
  rfl

theorem ofInt_sens2Of : BitVec.ofInt 64 (sens2Of (tempOf c d2)) =
    let temp := BitVec.ofInt 64 (tempOf c d2)
    let x := (temp - 2000#64) * (temp - 2000#64)
    let y := (temp + 1500#64) * (temp + 1500#64)
    if temp.slt 2000#64 then
      if temp.slt (-1500#64) then (5#64 * x).sdiv 4#64 + (11#64 * y).sdiv 2#64 else (5#64 * x).sdiv 4#64
    else 0#64 := by
  have hbase : (5 * (tempOf c d2 - 2000) ^ 2).natAbs < 2 ^ 63 :=
    natAbs_lt_of_mem_intermediates c 0#24 d2 (by simp [intermediates])
  have hextra : (11 * (tempOf c d2 + 1500) ^ 2).natAbs < 2 ^ 63 :=
    natAbs_lt_of_mem_intermediates c 0#24 d2 (by simp [intermediates])
  simp only [sens2Of_eq_ite, slt_cold, slt_veryCold, decide_eq_true_eq, apply_ite (BitVec.ofInt 64), BitVec.ofInt_add]
  rw [ofInt_tdiv hbase (by decide), ofInt_tdiv hextra (by decide), ofInt_five_mul_sq_sub, ofInt_mul_sq_add]
  rfl

theorem ofInt_offOf : BitVec.ofInt 64 (offOf c d2) =
    c.c2.setWidth 64 * 65536#64 + (c.c4.setWidth 64 * BitVec.ofInt 64 (dTOf c d2)).sdiv 128#64 := by
  have hprod : (uint c.c4 * dTOf c d2).natAbs < 2 ^ 63 :=
    natAbs_lt_of_mem_intermediates c 0#24 d2 (by simp [intermediates])
  rw [offOf, BitVec.ofInt_add, ofInt_tdiv hprod (by decide), BitVec.ofInt_mul, BitVec.ofInt_mul, ofInt_uint,
    ofInt_uint]
  rfl

theorem ofInt_sensOf : BitVec.ofInt 64 (sensOf c d2) =
    c.c1.setWidth 64 * 32768#64 + (c.c3.setWidth 64 * BitVec.ofInt 64 (dTOf c d2)).sdiv 256#64 := by
  have hprod : (uint c.c3 * dTOf c d2).natAbs < 2 ^ 63 :=
    natAbs_lt_of_mem_intermediates c 0#24 d2 (by simp [intermediates])
  rw [sensOf, BitVec.ofInt_add, ofInt_tdiv hprod (by decide), BitVec.ofInt_mul, BitVec.ofInt_mul, ofInt_uint,
    ofInt_uint]
  rfl

theorem ofInt_pressureOf : BitVec.ofInt 64 (pressureOf c d1 d2) =
    ((d1.setWidth 64 * (BitVec.ofInt 64 (sensOf c d2) - BitVec.ofInt 64 (sens2Of (tempOf c d2)))).sdiv 2097152#64 -
      (BitVec.ofInt 64 (offOf c d2) - BitVec.ofInt 64 (off2Of (tempOf c d2)))).sdiv 32768#64 := by
  have hprod : (uint d1 * sensAdjOf c d2).natAbs < 2 ^ 63 :=
    natAbs_lt_of_mem_intermediates c d1 d2 (by simp [intermediates])
  have hdiff : (scaledOf c d1 d2 - offAdjOf c d2).natAbs < 2 ^ 63 :=
    natAbs_lt_of_mem_intermediates c d1 d2 (by simp [intermediates])
  rw [pressureOf, ofInt_tdiv hdiff (by decide), ofInt_sub, scaledOf, ofInt_tdiv hprod (by decide), BitVec.ofInt_mul,
    ofInt_uint, sensAdjOf, offAdjOf, ofInt_sub, ofInt_sub]
  rfl

theorem compT64_eq_ofInt : compT64 c d2 = BitVec.ofInt 64 (compT c d2) := by
  rw [compT_eq_tempOutOf, tempOutOf, ofInt_sub, ofInt_t2Of, ofInt_tempOf, ofInt_dTOf]
  rfl

theorem compP64_eq_ofInt : compP64 c d1 d2 = BitVec.ofInt 64 (compP c d1 d2) := by
  rw [compP_eq_pressureOf, ofInt_pressureOf, ofInt_sensOf, ofInt_offOf, ofInt_sens2Of, ofInt_off2Of, ofInt_tempOf,
    ofInt_dTOf]
  rfl

theorem compT_natAbs_le : (compT c d2).natAbs ≤ 2 ^ 25 := by
  have h := tempOutOf_range c d2
  rw [compT_eq_tempOutOf]
  omega

theorem compP_natAbs_le : (compP c d1 d2).natAbs ≤ 2 ^ 25 := by
  have h := pressureOf_range c d1 d2
  rw [compP_eq_pressureOf]
  omega

end Datapath

/-- Settles O40: the results fit as well, so that the patterns read back as the integers. -/
theorem sixtyFourBitDatapathIsExact : Obligations.SixtyFourBitDatapathIsExact := by
  intro c d1 d2
  have hT := compT_natAbs_le c d2
  have hP := compP_natAbs_le c d1 d2
  rw [compT64_eq_ofInt, compP64_eq_ofInt]
  exact ⟨toInt_ofInt64 (by omega), toInt_ofInt64 (by omega)⟩

/-! The compute steps (R158, R172, R173). -/

theorem toInt_ofInt32 {v : Int} (hv : v.natAbs ≤ 2 ^ 25) : (BitVec.ofInt 32 v).toInt = v :=
  BitVec.toInt_ofInt_eq_self (by decide) (by omega) (by omega)

theorem State.complete_eq_endedWith (code : Nibble) (st : Status) (v : Int) (s : State) :
    s.complete code st v = s.endedWith code st (BitVec.ofInt 32 v) :=
  rfl

/-- Settles O41: RESULT takes the value's 32-bit pattern, which reads back as the value. -/
theorem computeStepsReturnTheCompensation : Obligations.ComputeStepsReturnTheCompensation := by
  refine ⟨fun c d1 d2 => ⟨compT_natAbs_le c d2, compP_natAbs_le c d1 d2⟩, fun s hhost hpos => ?_,
    fun s hhost hpos => ?_⟩
  · have hrun : s.seq.requestCode = some 0x2#4 := by rw [hpos]; rfl
    refine ⟨_, toInt_ofInt32 (compT_natAbs_le s.c s.d2), ?_⟩
    rw [step_of_no_move hhost, sequencerState, hpos]
    simp only [computeTStep, State.finish_of_running _ _ hrun, State.complete_eq_endedWith]
  · have hrun : s.seq.requestCode = some 0x3#4 := by rw [hpos]; rfl
    refine ⟨_, toInt_ofInt32 (compP_natAbs_le s.c s.d1 s.d2), ?_⟩
    rw [step_of_no_move hhost, sequencerState, hpos]
    simp only [computePStep, State.finish_of_running _ _ hrun, State.complete_eq_endedWith]

end Sys2Proof.Machine
end

section
/-! PROOFS. The family '43_requests.md': the acceptance of a request (R170 to R174), what a step answers (R175, R178), and
that every request ends (R240). -/

namespace Sys2Proof.Machine

/-! The acceptance of a request by the idle CCB (R170 to R174). -/

/-- Settles O14: the idle CCB accepts, and the step SEQ goes to is no wait. -/
theorem initClearsValidAndStarts : Obligations.InitClearsValidAndStarts :=
  fun _ hidle => congrArg Host.Outcome.next (State.accept_of_idle _ hidle)

/-- A read that is accepted over a validated set only moves SEQ. -/
theorem State.accept_startRead_of_valid {s : State} (code : Nibble) (first : SeqPos) (hidle : s.seq = .idle)
    (hvalid : s.valid = true) : s.accept (State.startRead code first) = s.goto first := by
  rw [accept_of_idle _ hidle, startRead, if_pos hvalid]

/-- Settles O15: both reads start at a command, where the timer holds 0. -/
theorem readsStartWhenValid : Obligations.ReadsStartWhenValid :=
  fun _ hidle hvalid =>
    ⟨congrArg Host.Outcome.next (State.accept_startRead_of_valid 0x2#4 (.readT .conv) hidle hvalid),
      congrArg Host.Outcome.next (State.accept_startRead_of_valid 0x3#4 (.readP .conv1) hidle hvalid)⟩

/-- A reserved code that is accepted writes the completion record and leaves SEQ where it is (R205). -/
theorem State.accept_illegal {s : State} (code : Nibble) (hidle : s.seq = .idle) :
    s.accept (State.illegal code) = { s with
      lastStatus := 5#3, lastReq := code, result := 0#32, timer := 0
      responses := s.responses ++ [⟨code, .illegalRequest, 0#32⟩] } := by
  rw [accept_of_idle _ hidle, illegal, complete, ← hidle]
  rfl

/-- Settles O17: the three reserved instructions are one acceptance. -/
theorem reservedCodesEndAsIllegal : Obligations.ReservedCodesEndAsIllegal :=
  fun _ code hidle =>
    ⟨congrArg Host.Outcome.next (State.accept_illegal 0x0#4 hidle),
      congrArg Host.Outcome.next (State.accept_illegal code hidle),
      congrArg Host.Outcome.next (State.accept_illegal code hidle)⟩

/-! What a step answers (R175, R178). -/

/-- A step answers a next state, but where another master drives the sensor of a busy CCB. -/
theorem step_next_or_foreignMaster (s : State) :
    (∃ t, step s = .next t) ∨
    (s.seq ≠ .idle ∧ (∃ rest, s.host = .otherMaster :: rest) ∧ step s = .fault .hostActionOutsideTable) := by
  rcases step_cases s with ⟨-, h⟩ | ⟨rest, -, h⟩ | ⟨code, rest, -, -, h⟩ | ⟨code, rest, -, -, h⟩ | ⟨rest, -, h⟩ |
    ⟨rest, -, h⟩ | ⟨rest, -, -, h⟩ | ⟨rest, hhost, hbusy, h⟩
  case inr.inr.inl =>
    obtain ⟨t, ht⟩ := everyInstructionAnswersANextState (decodeRequest code) { s with host := rest }
    exact .inl ⟨t, h.trans ht⟩
  case inr.inr.inr.inr.inr.inr.inr => exact .inr ⟨hbusy, ⟨rest, hhost⟩, h⟩
  all_goals exact .inl ⟨_, h⟩

/-- Settles O13: the one stop is a fault, and O59 gives it wherever its condition holds. -/
theorem stepStopsOnlyOnForeignMaster : Obligations.StepStopsOnlyOnForeignMaster := by
  intro s
  constructor
  · intro r hr
    rcases step_next_or_foreignMaster s with ⟨t, h⟩ | ⟨-, -, h⟩ <;> cases h.symm.trans hr
  · intro f
    constructor
    · intro hf
      rcases step_next_or_foreignMaster s with ⟨t, h⟩ | ⟨hbusy, hhost, h⟩ <;> cases h.symm.trans hf
      exact ⟨rfl, hbusy, hhost⟩
    · rintro ⟨rfl, hbusy, rest, hhost⟩
      exact (foreignMasterOnlyWhileIdle s rest hhost).1 hbusy

/-- A step that emits no response keeps the completion record, and one that emits a response writes its fields. -/
theorem RegisterStep.completionRecord {s t : State} {accepted : Option Nibble} (hstep : RegisterStep s accepted t) :
    (t.responses = s.responses ∧ t.lastStatus = s.lastStatus ∧ t.lastReq = s.lastReq ∧ t.result = s.result) ∨
    (∃ r, t.responses = s.responses ++ [r] ∧ t.seq = .idle ∧ t.lastStatus = r.status.code ∧ t.lastReq = r.code ∧
      t.result = r.value) := by
  cases hstep with
  | readRefused | illegal | failed | validated | rejected | computedT | computedP =>
    exact .inr ⟨_, rfl, rfl, rfl, rfl, rfl⟩
  | _ => exact .inl ⟨rfl, rfl, rfl, rfl⟩

/-- Settles O55: the block reset is set apart, and every other step is one of the register steps. -/
theorem completionRecordFollowsTheResponse : Obligations.CompletionRecordFollowsTheResponse := by
  intro s t hstep
  rcases step_moves hstep with ⟨rest, hhost, rfl⟩ | ⟨accepted, ⟨e, hmove⟩, -⟩
  · exact .inl ⟨rfl, .inl ⟨rest, hhost⟩⟩
  · exact hmove.completionRecord.imp_left (And.imp_right .inr)

/-! Every request ends (R24, R175): each step of the CCB goes on to a later position, or answers. -/

theorem SeqPos.stepsLeft_le (q : SeqPos) : q.stepsLeft ≤ 11 := by
  rcases q with _ | k | k | k
  · decide
  all_goals cases k <;> decide

theorem SeqPos.stepsLeft_pos {q : SeqPos} (h : q ≠ .idle) : 0 < q.stepsLeft := by
  rcases q with _ | k | k | k
  · exact absurd rfl h
  all_goals cases k <;> decide

theorem SeqPos.requestCode_eq_none_iff {q : SeqPos} : q.requestCode = none ↔ q = .idle := by
  cases q <;> simp [SeqPos.requestCode]

/-- Before its last step a sequence goes on within the same request, nearer to its end. -/
theorem SeqPos.next_of_one_lt_stepsLeft (p : Params) {q : SeqPos} (h : 1 < q.stepsLeft) :
    (q.next p).requestCode = q.requestCode ∧ (q.next p).stepsLeft < q.stepsLeft := by
  cases q with
  | idle => cases h
  | init k =>
    cases hw : p.crcWordSet <;> cases k <;>
      simp [SeqPos.next, InitStep.next, hw, SeqPos.requestCode, SeqPos.stepsLeft] at h ⊢
  | readT k => cases k <;> simp [SeqPos.next, ReadTStep.next, SeqPos.requestCode, SeqPos.stepsLeft] at h ⊢
  | readP k => cases k <;> simp [SeqPos.next, ReadPStep.next, SeqPos.requestCode, SeqPos.stepsLeft] at h ⊢

/-- From `s` to `t` the request that `s` runs is answered with one response (R175). -/
def State.Answers (s t : State) : Prop :=
  t.seq = .idle ∧ ∃ r, t.responses = s.responses ++ [r] ∧ s.seq.requestCode = some r.code

/-- From `s` to `t` the request goes on, nearer to its end and with nothing answered, or it is answered. -/
def State.Progresses (s t : State) : Prop :=
  (t.responses = s.responses ∧ t.seq.requestCode = s.seq.requestCode ∧ t.seq.stepsLeft < s.seq.stepsLeft) ∨
  s.Answers t

/-- The two states stand at the same step of the same request, and nothing is answered between them. -/
def State.SameRequest (s t : State) : Prop :=
  t.seq = s.seq ∧ t.cfg = s.cfg ∧ t.responses = s.responses

theorem State.SameRequest.advance {s t : State} (h : s.SameRequest t) (hmore : 1 < s.seq.stepsLeft) :
    s.Progresses t.advance := by
  obtain ⟨hseq, hcfg, hresp⟩ := h
  refine .inl ⟨hresp, ?_⟩
  rw [advance_seq, hseq, hcfg]
  exact SeqPos.next_of_one_lt_stepsLeft s.cfg hmore

theorem State.SameRequest.finish {s t : State} (h : s.SameRequest t) (hbusy : s.seq ≠ .idle) (st : Status) (v : Int) :
    s.Progresses (t.finish st v) := by
  obtain ⟨hseq, -, hresp⟩ := h
  rcases t.finish_cases st v with ⟨hidle, -⟩ | ⟨code, hcode, hfin⟩
  · exact absurd (hseq.symm.trans hidle) hbusy
  · rw [hfin, Progresses, Answers, ← hseq, ← hresp]
    exact .inr ⟨rfl, _, rfl, hcode⟩

theorem State.SameRequest.raise {s t : State} (h : s.SameRequest t) (hmore : 1 < s.seq.stepsLeft) (st : Status) :
    s.Progresses (t.raise st) :=
  h.finish (by intro hidle; rw [hidle] at hmore; cases hmore) st 0

section Transactions

variable {s : State} (hmore : 1 < s.seq.stepsLeft) (cmd : Byte)
include hmore

/-- A MemWrite progresses when its effect keeps to the request: by failing, or by its effect. -/
theorem State.memWrite_progresses {f : State → State} (hf : ∀ s : State, s.SameRequest (f s)) :
    s.Progresses (s.memWrite cmd f) := by
  rcases s.busAnswer_cases cmd with h | ⟨b0, b1, b2, h⟩
  · rw [memWrite_of_error f h]
    refine SameRequest.raise ?_ hmore _
    exact ⟨rfl, rfl, rfl⟩
  · rw [memWrite_of_ok f h]
    exact SameRequest.advance (hf (s.transacted _)) hmore

theorem State.memRead2_progresses {f : Byte → Byte → State → State}
    (hf : ∀ b0 b1 (s : State), s.SameRequest (f b0 b1 s)) : s.Progresses (s.memRead2 cmd f) := by
  rcases s.busAnswer_cases cmd with h | ⟨b0, b1, b2, h⟩
  · rw [memRead2_of_error f h]
    refine SameRequest.raise ?_ hmore _
    exact ⟨rfl, rfl, rfl⟩
  · rw [memRead2_of_ok f h]
    exact SameRequest.advance (hf b0 b1 (s.transacted _)) hmore

theorem State.memRead3_progresses {f : Byte → Byte → Byte → State → State}
    (hf : ∀ b0 b1 b2 (s : State), s.SameRequest (f b0 b1 b2 s)) : s.Progresses (s.memRead3 cmd f) := by
  rcases s.busAnswer_cases cmd with h | ⟨b0, b1, b2, h⟩
  · rw [memRead3_of_error f h]
    refine SameRequest.raise ?_ hmore _
    exact ⟨rfl, rfl, rfl⟩
  · rw [memRead3_of_ok f h]
    exact SameRequest.advance (hf b0 b1 b2 (s.transacted _).disturbSensor) hmore

end Transactions

theorem promReadInto_progresses {s : State} (n : CalIndex) (hmore : 1 < s.seq.stepsLeft) :
    s.Progresses (promReadInto n s) := by
  refine State.memRead2_progresses hmore _ ?_
  exact fun _ _ _ => ⟨rfl, rfl, rfl⟩

theorem State.convert_progresses {s : State} (ch : Channel) (hmore : 1 < s.seq.stepsLeft) :
    s.Progresses (s.convert ch) := by
  refine memWrite_progresses hmore _ ?_
  exact fun _ => ⟨rfl, rfl, rfl⟩

theorem State.readSample_progresses {s : State} (hmore : 1 < s.seq.stepsLeft) : s.Progresses s.readSample := by
  refine memRead3_progresses hmore _ fun b0 b1 b2 s => ?_
  rw [s.storeSample_eq]
  exact ⟨rfl, rfl, rfl⟩

theorem waitStep_progresses {s : State} (ms : Nat) (hmore : 1 < s.seq.stepsLeft) : s.Progresses (waitStep ms s) :=
  State.SameRequest.advance (t := s.record (.wait ms)) ⟨rfl, rfl, rfl⟩ hmore

theorem validateStep_progresses {s : State} (hbusy : s.seq ≠ .idle) : s.Progresses (validateStep s) := by
  rcases validateStep_cases s with ⟨-, h⟩ | ⟨-, h⟩ <;> rw [h] <;> refine State.SameRequest.finish ?_ hbusy _ _ <;>
    exact ⟨rfl, rfl, rfl⟩

/-- The CCB's own step while BUSY = 1, position by position: only the last step of a sequence must answer. -/
theorem sequencerState_progresses {s : State} (hbusy : s.seq ≠ .idle) : s.Progresses (sequencerState s) := by
  unfold sequencerState
  cases hpos : s.seq with
  | idle => exact absurd hpos hbusy
  | init k =>
    cases k with
    | sensorReset =>
      refine State.memWrite_progresses (by rw [hpos]; decide) _ ?_
      exact fun _ => ⟨rfl, rfl, rfl⟩
    | resetWait => exact waitStep_progresses _ (by rw [hpos]; decide)
    | prom0 | promCrc =>
      refine State.memRead2_progresses (by rw [hpos]; decide) _ ?_
      exact fun _ _ _ => ⟨rfl, rfl, rfl⟩
    | prom1 | prom2 | prom3 | prom4 | prom5 | prom6 => exact promReadInto_progresses _ (by rw [hpos]; decide)
    | validate => exact validateStep_progresses hbusy
  | readT k =>
    cases k with
    | conv => exact State.convert_progresses _ (by rw [hpos]; decide)
    | convWait => exact waitStep_progresses _ (by rw [hpos]; decide)
    | adc => exact State.readSample_progresses (by rw [hpos]; decide)
    | compute => exact State.SameRequest.finish ⟨rfl, rfl, rfl⟩ hbusy _ _
  | readP k =>
    cases k with
    | conv1 | conv2 => exact State.convert_progresses _ (by rw [hpos]; decide)
    | wait1 | wait2 => exact waitStep_progresses _ (by rw [hpos]; decide)
    | adc1 | adc2 => exact State.readSample_progresses (by rw [hpos]; decide)
    | compute => exact State.SameRequest.finish ⟨rfl, rfl, rfl⟩ hbusy _ _

/-- The idle CCB stays as it is, however many steps it takes. -/
theorem iterate_sequencerState_of_idle {s : State} (h : s.seq = .idle) (n : Nat) : sequencerState^[n] s = s := by
  have hfix : sequencerState s = s := by rw [sequencerState, h]
  exact Function.iterate_fixed hfix n

/-- A running request is answered once, within the steps its position leaves it. -/
theorem iterate_sequencerState_answers {n : Nat} {s : State} (hbusy : s.seq ≠ .idle) (hn : s.seq.stepsLeft ≤ n) :
    s.Answers (sequencerState^[n] s) := by
  induction n generalizing s with
  | zero => exact absurd hn (SeqPos.stepsLeft_pos hbusy).not_ge
  | succ n ih =>
    rw [Function.iterate_succ_apply]
    rcases sequencerState_progresses hbusy with ⟨hresp, hcode, hless⟩ | ⟨hidle, hr⟩
    · have hbusy' : (sequencerState s).seq ≠ .idle := by
        rwa [ne_eq, ← SeqPos.requestCode_eq_none_iff, hcode, SeqPos.requestCode_eq_none_iff]
      obtain ⟨hend, hr⟩ := ih hbusy' (by omega)
      rw [hresp, hcode] at hr
      exact ⟨hend, hr⟩
    · rw [iterate_sequencerState_of_idle hidle]
      exact ⟨hidle, hr⟩

/-- Settles O46: no position leaves more than 11 steps, and the CCB is idle from the answer on. -/
theorem everyRequestEndsWithOneResponse : Obligations.EveryRequestEndsWithOneResponse := by
  intro s hhost
  refine ⟨_, run_of_no_move 11 hhost, ?_⟩
  by_cases hidle : s.seq = .idle
  · rw [iterate_sequencerState_of_idle hidle]
    exact ⟨hidle, fun _ => rfl, fun hbusy => absurd hidle hbusy⟩
  · obtain ⟨hend, hr⟩ := iterate_sequencerState_answers hidle s.seq.stepsLeft_le
    exact ⟨hend, fun h => absurd h hidle, fun _ => hr⟩

end Sys2Proof.Machine
end

section
/-! PROOFS. The family '43_requests.md': the whole requests (R171 to R173, R176). A request whose transactions all succeed
is a run of single operations, each by its own rule. -/

namespace Sys2Proof.Machine

/-! One step of such a run. -/

/-- No host move is to come, SEQ stands here, and these are the sensor's coming answers. -/
structure State.Ready (s : State) (q : SeqPos) (answers : List BusAnswer) : Prop where
  host : s.host = []
  seq : s.seq = q
  answers : s.answers = answers

section Ready

variable {s t : State} {q : SeqPos} {as : List BusAnswer} {b0 b1 b2 : Byte}

/-- Where SEQ stands at a command, the step runs the instruction it decodes to. -/
theorem State.Ready.step_eq_exec (h : s.Ready q as) {cmd : Byte} {i : Instr} (hwork : q.work s.cfg = .command cmd)
    (hdecode : decode (.command cmd) = .ok i) : step s = exec i s :=
  stepRunsDecodedInstruction.1 s cmd i h.host (by rw [h.seq]; exact hwork) hdecode

theorem State.Ready.busAnswer (h : s.Ready q (.ok b0 b1 b2 :: as)) (cmd : Byte) : s.busAnswer cmd = .ok b0 b1 b2 :=
  busAnswer_of_scripted cmd h.answers

/-- A transaction that succeeds uses up its answer and moves SEQ on. -/
theorem State.Ready.next {a : BusAnswer} (h : s.Ready q (a :: as)) (hhost : t.host = s.host)
    (hseq : t.seq = s.seq.next s.cfg) (hanswers : t.answers = s.answers.tail) : t.Ready (q.next s.cfg) as where
  host := hhost.trans h.host
  seq := by rw [hseq, h.seq]
  answers := by rw [hanswers, h.answers, List.tail_cons]

/-- A wait uses up no answer and moves SEQ on. -/
theorem State.Ready.step_wait (h : s.Ready q as) {ms : Nat} (hwork : q.work s.cfg = .wait ms) :
    step s = .next (waitStep ms s) ∧ (waitStep ms s).Ready (q.next s.cfg) as := by
  refine ⟨waitOnlyAdvancesTheSequencer s ms h.host ?_, h.host, ?_, h.answers⟩
  · rw [h.seq]; exact hwork
  · exact congrArg (SeqPos.next s.cfg) h.seq

/-- The idle CCB accepts a request that is the host's last move (R170). -/
theorem step_of_lastRequest {code : Nibble} {i : Instr} (hhost : s.host = [.request code]) (hidle : s.seq = .idle)
    (hdecode : decode (.request code) = .ok i) : step s = exec i { s with host := [] } :=
  stepRunsDecodedInstruction.2.2 s [] code i hhost hidle hdecode

end Ready

/-! The states INIT passes through (R171). -/

/-- INIT has been accepted, and no host move is left. -/
def State.initStarted (s : State) : State :=
  { s with host := [], valid := false, crcHeld := s.crcStored, seq := .init .sensorReset, timer := 0 }

/-- SENSOR_RESET has been acknowledged (R100). -/
def State.resetting (sensor : Sensor) (s : State) : State :=
  { s.movedOn (.write s.cfg.devAddr 0x1E#8 true) with pend := .none, sensor := sensor }

/-- SENSOR_RESET and the wait after it are done. -/
def State.sensorWasReset (sensor : Sensor) (s : State) : State :=
  { s with
    pend := .none
    sensor := sensor
    seq := (s.seq.next s.cfg).next s.cfg
    timer := ((s.seq.next s.cfg).next s.cfg).timerLoad s.cfg
    answers := s.answers.tail
    now := s.now + 2
    trace := s.trace ++ [.write s.cfg.devAddr 0x1E#8 true, .wait tResetWait] }

/-- PROM_READ 0 has returned these bytes, which make the word `v` (R103). -/
def State.word0Loaded (b0 b1 : Byte) (v : Word) (s : State) : State :=
  { s.movedOn (.read s.cfg.devAddr 0xA0#8 2 (some [b0, b1])) with w0 := v }

/-- PROM_READ n has returned these bytes, which make the word `v` (R101). -/
def State.wordLoaded (n : CalIndex) (b0 b1 : Byte) (v : Word) (s : State) : State :=
  { s.movedOn (.read s.cfg.devAddr (promCommand n.promIndex) 2 (some [b0, b1])) with c := s.c.set v n }

/-- PROM_READ_CRC has returned these bytes, which make the word `v` (R102). -/
def State.checksumLoaded (b0 b1 : Byte) (v : Word) (s : State) : State :=
  { s.movedOn (.read s.cfg.devAddr 0xAE#8 2 (some [b0, b1])) with w7 := v, crcStored := b1.extractLsb' 0 4 }

/-- The PROM words 1 to 7 are read, `w n` from the bytes `hi n` and `lo n`, and the validation comes next. -/
def State.imageLoaded (hi lo : Nat → Byte) (w : Nat → Word) (s : State) : State :=
  { s with
    c := ⟨w 1, w 2, w 3, w 4, w 5, w 6⟩
    w7 := w 7
    crcStored := (lo 7).extractLsb' 0 4
    seq := .init .validate
    timer := 0
    answers := s.answers.drop 7
    now := s.now + 7
    trace := s.trace ++
      [.read s.cfg.devAddr 0xA2#8 2 (some [hi 1, lo 1]), .read s.cfg.devAddr 0xA4#8 2 (some [hi 2, lo 2]),
        .read s.cfg.devAddr 0xA6#8 2 (some [hi 3, lo 3]), .read s.cfg.devAddr 0xA8#8 2 (some [hi 4, lo 4]),
        .read s.cfg.devAddr 0xAA#8 2 (some [hi 5, lo 5]), .read s.cfg.devAddr 0xAC#8 2 (some [hi 6, lo 6]),
        .read s.cfg.devAddr 0xAE#8 2 (some [hi 7, lo 7])] }

/-- INIT has ended with its validation (R106). -/
def State.validated (s : State) : State :=
  { s.endedWith 0x1#4 (if s.imageCrc = s.crcStored then .ok else .calError) 0#32 with
    crcCalc := s.imageCrc
    valid := decide (s.imageCrc = s.crcStored) }

section Init

variable {s : State} {as : List BusAnswer} {b0 b1 b2 : Byte} {v : Word} {hi lo x : Nat → Byte} {w : Nat → Word}

theorem step_initStarted (hidle : s.seq = .idle) (hhost : s.host = [.request 0x1#4]) :
    step s = .next s.initStarted := by
  rw [step_of_lastRequest (i := .init) hhost hidle rfl]
  exact initClearsValidAndStarts { s with host := [] } hidle

theorem State.Ready.step_sensorReset (h : s.Ready (.init .sensorReset) (.ok b0 b1 b2 :: as)) :
    ∃ sensor, step s = .next (s.resetting sensor) ∧ (s.resetting sensor).Ready (.init .resetWait) as := by
  obtain ⟨sensor, -, hreset⟩ := sensorResetChangesOnlyPend s b0 b1 b2 (h.busAnswer _)
  refine ⟨sensor, ?_, h.next rfl rfl rfl⟩
  rw [h.step_eq_exec (cmd := 0x1E#8) rfl rfl]
  exact hreset

theorem State.waitStep_resetting (sensor : Sensor) :
    waitStep tResetWait (s.resetting sensor) = s.sensorWasReset sensor := by
  simp only [waitStep, record, advance, goto, resetting, movedOn, sensorWasReset, List.append_assoc]
  rfl

/-- INIT's first two steps; what comes next depends on CRC_WORD_SET. -/
theorem State.Ready.run_sensorReset (k : Nat) {q : SeqPos} (h : s.Ready (.init .sensorReset) (.ok b0 b1 b2 :: as))
    (hnext : SeqPos.next s.cfg (.init .resetWait) = q) :
    ∃ sensor, Sys2Proof.core.run (k + 2) s = Sys2Proof.core.run k (s.sensorWasReset sensor) ∧
      (s.sensorWasReset sensor).Ready q as := by
  obtain ⟨sensor, e1, h1⟩ := h.step_sensorReset
  obtain ⟨e2, h2⟩ := h1.step_wait (ms := tResetWait) rfl
  rw [waitStep_resetting] at e2 h2
  exact ⟨sensor, by rw [run_succ _ e1, run_succ _ e2], hnext ▸ h2⟩

theorem State.Ready.step_promRead0 (h : s.Ready (.init .prom0) (.ok b0 b1 b2 :: as))
    (hv : v.toNat = b0.toNat * 2 ^ 8 + b1.toNat) :
    step s = .next (s.word0Loaded b0 b1 v) ∧ (s.word0Loaded b0 b1 v).Ready (.init .prom1) as := by
  refine ⟨?_, h.next rfl rfl rfl⟩
  rw [h.step_eq_exec (cmd := 0xA0#8) rfl rfl]
  exact promReadZeroStoresWordZero s b0 b1 b2 v (h.busAnswer _) hv

theorem State.Ready.step_promRead (n : CalIndex) (h : s.Ready n.position (.ok b0 b1 b2 :: as))
    (hv : v.toNat = b0.toNat * 2 ^ 8 + b1.toNat) :
    step s = .next (s.wordLoaded n b0 b1 v) ∧ (s.wordLoaded n b0 b1 v).Ready (n.position.next s.cfg) as := by
  have hwork : n.position.work s.cfg = .command (promCommand n.promIndex) := by cases n <;> rfl
  have hdecode : decode (.command (promCommand n.promIndex)) = .ok n.promRead := by cases n <;> rfl
  refine ⟨?_, h.next rfl rfl rfl⟩
  rw [h.step_eq_exec hwork hdecode]
  exact exec_promRead_of_ok n hv (h.busAnswer _)

theorem State.Ready.step_promReadCrc (h : s.Ready (.init .promCrc) (.ok b0 b1 b2 :: as))
    (hv : v.toNat = b0.toNat * 2 ^ 8 + b1.toNat) :
    step s = .next (s.checksumLoaded b0 b1 v) ∧ (s.checksumLoaded b0 b1 v).Ready (.init .validate) as := by
  obtain ⟨-, hok⟩ := promReadCrcStoresWordAndChecksum
  refine ⟨?_, h.next rfl rfl rfl⟩
  rw [h.step_eq_exec (cmd := 0xAE#8) rfl rfl]
  exact (hok s b0 b1 b2 v _ (h.busAnswer _) hv (extractLsb'_low_toNat b1)).2

theorem State.Ready.step_validate (h : s.Ready (.init .validate) as) (hvalid : s.valid = false) :
    step s = .next s.validated := by
  obtain ⟨hmatch, hdiffer, -⟩ := validationComparesTheChecksums s h.host h.seq
  by_cases heq : s.imageCrc = s.crcStored
  · rw [hmatch heq, validated, if_pos heq, decide_eq_true heq]
  · rw [hdiffer heq, validated, if_neg heq, decide_eq_false heq, ← hvalid]
    rfl

/-- The seven reads, one after the other, load the image. -/
theorem State.wordsLoaded_eq (hseq : s.seq = .init .prom1) :
    (s |>.wordLoaded .n1 (hi 1) (lo 1) (w 1) |>.wordLoaded .n2 (hi 2) (lo 2) (w 2)
      |>.wordLoaded .n3 (hi 3) (lo 3) (w 3) |>.wordLoaded .n4 (hi 4) (lo 4) (w 4)
      |>.wordLoaded .n5 (hi 5) (lo 5) (w 5) |>.wordLoaded .n6 (hi 6) (lo 6) (w 6)
      |>.checksumLoaded (hi 7) (lo 7) (w 7)) = s.imageLoaded hi lo w := by
  have hdrop : s.answers.tail.tail.tail.tail.tail.tail.tail = s.answers.drop 7 := by
    simp only [← List.drop_one, List.drop_drop]
  simp only [wordLoaded, checksumLoaded, movedOn, imageLoaded, hseq, hdrop, List.append_assoc]
  rfl

/-- From PROM_READ 1 on, INIT loads the image and validates it. -/
theorem State.Ready.run_promReads
    (h : s.Ready (.init .prom1) ([BusAnswer.ok (hi 1) (lo 1) (x 1), .ok (hi 2) (lo 2) (x 2), .ok (hi 3) (lo 3) (x 3),
      .ok (hi 4) (lo 4) (x 4), .ok (hi 5) (lo 5) (x 5), .ok (hi 6) (lo 6) (x 6), .ok (hi 7) (lo 7) (x 7)] ++ as))
    (hw : ∀ n, (w n).toNat = (hi n).toNat * 2 ^ 8 + (lo n).toNat) (hvalid : s.valid = false) :
    Sys2Proof.core.run 8 s = .next (s.imageLoaded hi lo w).validated := by
  obtain ⟨e1, h1⟩ := h.step_promRead .n1 (hw 1)
  obtain ⟨e2, h2⟩ := h1.step_promRead .n2 (hw 2)
  obtain ⟨e3, h3⟩ := h2.step_promRead .n3 (hw 3)
  obtain ⟨e4, h4⟩ := h3.step_promRead .n4 (hw 4)
  obtain ⟨e5, h5⟩ := h4.step_promRead .n5 (hw 5)
  obtain ⟨e6, h6⟩ := h5.step_promRead .n6 (hw 6)
  obtain ⟨e7, h7⟩ := h6.step_promReadCrc (hw 7)
  rw [run_succ _ e1, run_succ _ e2, run_succ _ e3, run_succ _ e4, run_succ _ e5, run_succ _ e6, run_succ _ e7]
  rw [wordsLoaded_eq h.seq] at h7 ⊢
  rw [run_succ _ (h7.step_validate hvalid), run_zero]

theorem State.imageLoaded_imageCrc_doc7 (hset : s.cfg.crcWordSet = .doc7) : (s.imageLoaded hi lo w).imageCrc =
    crc4 [w 1, w 2, w 3, w 4, w 5, w 6, w 7 &&& 0xFFF0#16] s.cfg.crcFinalXor := by
  rw [imageCrc, show (s.imageLoaded hi lo w).cfg.crcWordSet = .doc7 from hset]
  rfl

theorem State.imageLoaded_imageCrc_datasheet8 (hset : s.cfg.crcWordSet = .datasheet8) :
    (s.imageLoaded hi lo w).imageCrc =
      crc4 [s.w0, w 1, w 2, w 3, w 4, w 5, w 6, w 7 &&& 0xFF00#16] s.cfg.crcFinalXor := by
  rw [imageCrc, show (s.imageLoaded hi lo w).cfg.crcWordSet = .datasheet8 from hset]
  rfl

theorem State.validated_lastStatus : s.validated.lastStatus = if s.imageCrc = s.crcStored then 1#3 else 2#3 :=
  apply_ite Status.code _ _ _

end Init

/-- Settles O42: under DOC7 the reset and its wait are followed by PROM_READ 1. -/
theorem initLoadsAndValidates : Obligations.InitLoadsAndValidates := by
  intro s hi lo x w rest hidle hhost hset hanswers hw
  have hready : s.initStarted.Ready (.init .sensorReset) _ := ⟨rfl, rfl, hanswers⟩
  have hnext : SeqPos.next s.cfg (.init .resetWait) = .init .prom1 := by simp only [SeqPos.next, InitStep.next, hset]
  obtain ⟨sensor, hreset, hready1⟩ := hready.run_sensorReset 8 hnext
  have hreads := hready1.run_promReads hw rfl
  refine ⟨_, (run_succ 10 (step_initStarted hidle hhost)).trans (hreset.trans hreads), rfl, rfl, rfl, ?crcCalc, rfl,
    State.validated_lastStatus, rfl, rfl, rfl, rfl, rfl, ?trace, ?answers, rfl, rfl, rfl, rfl, rfl, rfl, rfl⟩
  case crcCalc => exact State.imageLoaded_imageCrc_doc7 hset
  case trace => exact List.append_assoc _ _ _
  case answers => exact congrArg (List.drop 7) hready1.answers

/-- Settles O43: under DATASHEET8 PROM_READ 0 stands between the wait and PROM_READ 1. -/
theorem initReadsWordZeroUnderDatasheet8 : Obligations.InitReadsWordZeroUnderDatasheet8 := by
  intro s hi lo x w rest hidle hhost hset hanswers hw
  have hready : s.initStarted.Ready (.init .sensorReset) _ := ⟨rfl, rfl, hanswers⟩
  have hnext : SeqPos.next s.cfg (.init .resetWait) = .init .prom0 := by simp only [SeqPos.next, InitStep.next, hset]
  obtain ⟨sensor, hreset, hready1⟩ := hready.run_sensorReset 9 hnext
  obtain ⟨hword0, hready2⟩ := hready1.step_promRead0 (hw 0)
  have hreads := hready2.run_promReads hw rfl
  refine ⟨_, (run_succ 11 (step_initStarted hidle hhost)).trans (hreset.trans ((run_succ 8 hword0).trans hreads)),
    rfl, rfl, rfl, rfl, ?crcCalc, rfl, State.validated_lastStatus, rfl, rfl, rfl, rfl, rfl, ?trace, ?answers,
    rfl, rfl, rfl, rfl, rfl, rfl⟩
  case crcCalc => exact State.imageLoaded_imageCrc_datasheet8 hset
  case trace => exact (List.append_assoc _ _ _).trans (List.append_assoc _ _ _)
  case answers => exact congrArg (List.drop 7) hready2.answers

/-! The states a read passes through (R172, R173). -/

/-- A read whose sequence begins here has been accepted, and no host move is left. -/
def State.readStarted (first : SeqPos) (s : State) : State :=
  { s with host := [], seq := first, timer := 0 }

/-- A conversion command has been acknowledged (R120, R121). -/
def State.converting (ch : Channel) (sensor : Sensor) (s : State) : State :=
  { s.movedOn (.write s.cfg.devAddr (convCommand ch) true) with pend := Pend.ofChannel ch, sensor := sensor }

/-- ADC_READ has returned these bytes, which make the sample `v` of the channel that PEND named (R122). -/
def State.sampled (ch : Channel) (b0 b1 b2 : Byte) (v : Sample) (sensor : Sensor) (s : State) : State :=
  { s.movedOn (.read s.cfg.devAddr 0x00#8 3 (some [b0, b1, b2])) with
    d1 := if ch = .pressure then v else s.d1
    d2 := if ch = .temperature then v else s.d2
    pend := .none
    sensor := sensor }

/-- A conversion, its wait and the read of its result are done. -/
def State.measured (ch : Channel) (b0 b1 b2 : Byte) (v : Sample) (sensor : Sensor) (s : State) : State :=
  { s with
    d1 := if ch = .pressure then v else s.d1
    d2 := if ch = .temperature then v else s.d2
    pend := .none
    sensor := sensor
    seq := ((s.seq.next s.cfg).next s.cfg).next s.cfg
    timer := (((s.seq.next s.cfg).next s.cfg).next s.cfg).timerLoad s.cfg
    answers := s.answers.tail.tail
    now := s.now + 3
    trace := s.trace ++ [.write s.cfg.devAddr (convCommand ch) true, .wait tConvWait,
      .read s.cfg.devAddr 0x00#8 3 (some [b0, b1, b2])] }

/-- A conversion command is followed by the wait for its result and by the read of it. -/
theorem SeqPos.work_after_conversion {p : Params} {q : SeqPos} {ch : Channel}
    (h : q.work p = .command (convCommand ch)) :
    (q.next p).work p = .wait tConvWait ∧ ((q.next p).next p).work p = .command 0x00#8 := by
  rcases SeqPos.eq_of_work_conversion h with ⟨rfl, -⟩ | ⟨rfl, -⟩ | ⟨rfl, -⟩ <;> exact ⟨rfl, rfl⟩

theorem sequencerState_of_conversion {s : State} {ch : Channel}
    (hwork : s.seq.work s.cfg = .command (convCommand ch)) : sequencerState s = s.convert ch := by
  rcases SeqPos.eq_of_work_conversion hwork with ⟨hpos, rfl⟩ | ⟨hpos, rfl⟩ | ⟨hpos, rfl⟩ <;>
    simp only [sequencerState, hpos]

section Read

variable {s : State} {q : SeqPos} {ch : Channel} {as : List BusAnswer} {a0 a1 a2 b0 b1 b2 : Byte} {v : Sample}

theorem State.Ready.step_conversion (h : s.Ready q (.ok b0 b1 b2 :: as))
    (hwork : q.work s.cfg = .command (convCommand ch)) :
    ∃ sensor, step s = .next (s.converting ch sensor) ∧ (s.converting ch sensor).Ready (q.next s.cfg) as := by
  obtain ⟨sensor, -, -, hconv⟩ := State.convert_sets_pend (h.busAnswer (convCommand ch))
  refine ⟨sensor, ?_, h.next rfl rfl rfl⟩
  rw [step_of_no_move h.host, sequencerState_of_conversion (by rw [h.seq]; exact hwork), hconv, converting]

theorem State.Ready.step_adcRead (h : s.Ready q (.ok b0 b1 b2 :: as)) (hwork : q.work s.cfg = .command 0x00#8)
    (hpend : s.pend = Pend.ofChannel ch) (hv : v.toNat = b0.toNat * 2 ^ 16 + b1.toNat * 2 ^ 8 + b2.toNat) :
    ∃ sensor, step s = .next (s.sampled ch b0 b1 b2 v sensor) ∧
      (s.sampled ch b0 b1 b2 v sensor).Ready (q.next s.cfg) as := by
  obtain ⟨sensor, -, hadc⟩ := adcReadStoresByPend s b0 b1 b2 v (h.busAnswer _) hv
  refine ⟨sensor, ?_, h.next rfl rfl rfl⟩
  rw [h.step_eq_exec hwork (i := .adcRead) rfl, hadc, hpend]
  cases ch <;> rfl

theorem State.sampled_waitStep_converting (sensor sensor' : Sensor) :
    (waitStep tConvWait (s.converting ch sensor)).sampled ch b0 b1 b2 v sensor' =
      s.measured ch b0 b1 b2 v sensor' := by
  simp only [waitStep, record, advance, goto, movedOn, converting, sampled, List.append_assoc]
  rfl

/-- The three steps that measure a channel, in a read of either kind. -/
theorem State.Ready.run_measured (k : Nat) (h : s.Ready q (.ok a0 a1 a2 :: .ok b0 b1 b2 :: as))
    (hwork : q.work s.cfg = .command (convCommand ch))
    (hv : v.toNat = b0.toNat * 2 ^ 16 + b1.toNat * 2 ^ 8 + b2.toNat) :
    ∃ sensor, Sys2Proof.core.run (k + 3) s = Sys2Proof.core.run k (s.measured ch b0 b1 b2 v sensor) ∧
      (s.measured ch b0 b1 b2 v sensor).Ready (((q.next s.cfg).next s.cfg).next s.cfg) as := by
  obtain ⟨hwait, hadc⟩ := SeqPos.work_after_conversion hwork
  obtain ⟨_, e1, h1⟩ := h.step_conversion hwork
  obtain ⟨e2, h2⟩ := h1.step_wait hwait
  obtain ⟨sensor, e3, h3⟩ := h2.step_adcRead (ch := ch) hadc rfl hv
  rw [sampled_waitStep_converting] at e3 h3
  exact ⟨sensor, by rw [run_succ _ e1, run_succ _ e2, run_succ _ e3], h3⟩

theorem step_readTStarted (hidle : s.seq = .idle) (hvalid : s.valid = true) (hhost : s.host = [.request 0x2#4]) :
    step s = .next (s.readStarted (.readT .conv)) := by
  rw [step_of_lastRequest (i := .readT) hhost hidle rfl]
  exact (readsStartWhenValid { s with host := [] } hidle hvalid).1

theorem step_readPStarted (hidle : s.seq = .idle) (hvalid : s.valid = true) (hhost : s.host = [.request 0x3#4]) :
    step s = .next (s.readStarted (.readP .conv1)) := by
  rw [step_of_lastRequest (i := .readP) hhost hidle rfl]
  exact (readsStartWhenValid { s with host := [] } hidle hvalid).2

end Read

/-- Settles O44: the temperature is measured and compensated. -/
theorem readTReturnsFreshTemperature : Obligations.ReadTReturnsFreshTemperature := by
  intro s a0 a1 a2 b0 b1 b2 d2 rest hidle hvalid hhost hanswers hd2
  have hready : (s.readStarted (.readT .conv)).Ready (.readT .conv) _ := ⟨rfl, rfl, hanswers⟩
  obtain ⟨sensor, hmeasure, hready1⟩ := hready.run_measured (ch := .temperature) 1 rfl hd2
  obtain ⟨-, hcomputeT, -⟩ := computeStepsReturnTheCompensation
  obtain ⟨v, hv, hcompute⟩ := hcomputeT _ hready1.host hready1.seq
  have hrun := (run_succ 4 (step_readTStarted hidle hvalid hhost)).trans (hmeasure.trans (run_succ 0 hcompute))
  exact ⟨_, hrun, hv, rfl, rfl, rfl, rfl, rfl, rfl, rfl, hready1.answers, rfl, rfl, rfl, rfl, rfl, rfl, rfl, rfl, hvalid,
    rfl, rfl⟩

/-- READ_P measures the first and the second channel of P_CONV_ORDER and compensates both. -/
theorem run_readP {s : State} {a b e f : Nat → Byte} {v1 v2 : Sample} {as : List BusAnswer} {order : ConvOrder}
    (hidle : s.seq = .idle) (hvalid : s.valid = true) (hhost : s.host = [.request 0x3#4])
    (horder : s.cfg.pConvOrder = order)
    (hanswers : s.answers = [BusAnswer.ok (a 0) (a 1) (a 2), .ok (b 0) (b 1) (b 2), .ok (e 0) (e 1) (e 2),
      .ok (f 0) (f 1) (f 2)] ++ as)
    (hv1 : v1.toNat = (b 0).toNat * 2 ^ 16 + (b 1).toNat * 2 ^ 8 + (b 2).toNat)
    (hv2 : v2.toNat = (f 0).toNat * 2 ^ 16 + (f 1).toNat * 2 ^ 8 + (f 2).toNat) :
    ∃ sensor1 sensor2 v t, t = (s.readStarted (.readP .conv1)
        |>.measured (firstChannel order) (b 0) (b 1) (b 2) v1 sensor1
        |>.measured (secondChannel order) (f 0) (f 1) (f 2) v2 sensor2) ∧
      Sys2Proof.core.run 8 s = .next (t.endedWith 0x3#4 .ok v) ∧ v.toInt = compP t.c t.d1 t.d2 ∧ t.answers = as := by
  subst horder
  have hready : (s.readStarted (.readP .conv1)).Ready (.readP .conv1) _ := ⟨rfl, rfl, hanswers⟩
  obtain ⟨sensor1, hmeasure1, hready1⟩ := hready.run_measured (ch := firstChannel s.cfg.pConvOrder) 4 rfl hv1
  obtain ⟨sensor2, hmeasure2, hready2⟩ := hready1.run_measured (ch := secondChannel s.cfg.pConvOrder) 1 rfl hv2
  obtain ⟨-, -, hcomputeP⟩ := computeStepsReturnTheCompensation
  obtain ⟨v, hv, hcompute⟩ := hcomputeP _ hready2.host hready2.seq
  refine ⟨sensor1, sensor2, v, _, rfl, ?_, hv, hready2.answers⟩
  rw [run_succ 7 (step_readPStarted hidle hvalid hhost), hmeasure1, hmeasure2, run_succ 0 hcompute, run_zero]

/-- Settles O45: in either order each sample goes to its own register. -/
theorem readPReturnsFreshPressure : Obligations.ReadPReturnsFreshPressure := by
  intro s a b e f d1 d2 rest order hidle hvalid hhost horder hanswers hd1 hd2
  cases order
  case' d1First =>
    obtain ⟨sensor1, sensor2, v, t, rfl, hrun, hv, hrest⟩ := run_readP hidle hvalid hhost horder hanswers hd1 hd2
  case' d2First =>
    obtain ⟨sensor1, sensor2, v, t, rfl, hrun, hv, hrest⟩ := run_readP hidle hvalid hhost horder hanswers hd2 hd1
  all_goals
    exact ⟨_, hrun, hv, rfl, rfl, rfl, rfl, rfl, rfl, List.append_assoc _ _ _, rfl, hrest, rfl, rfl, rfl, rfl, rfl, rfl,
      rfl, rfl, hvalid, rfl⟩

end Sys2Proof.Machine
end

section
/-! PROOFS. The family '60_exceptions.md': transactions that fail (R202), reads before INIT (R204), and the timer's count
(R211). -/

namespace Sys2Proof.Machine

/-! Transactions that fail (R202). -/

/-- A bus operation is one of the three transactions of R53, told apart by what is on the trace when it fails. -/
theorem exec_busOperation_cases {i : Instr} {cmd : Byte} (hcmd : encode i = .command cmd) (s : State) :
    (failedTransaction s.cfg cmd = .write s.cfg.devAddr cmd false ∧ ∃ f, exec i s = .next (s.memWrite cmd f)) ∨
    (failedTransaction s.cfg cmd = .read s.cfg.devAddr cmd 2 none ∧ ∃ f, exec i s = .next (s.memRead2 cmd f)) ∨
    (failedTransaction s.cfg cmd = .read s.cfg.devAddr cmd 3 none ∧ ∃ f, exec i s = .next (s.memRead3 cmd f)) := by
  cases i with
  | init | readT | readP | reserved0 | reserved4to7 | reserved8toF => cases hcmd
  | sensorReset | convD1 | convD2 =>
    obtain rfl := PortWord.command.inj hcmd
    exact .inl ⟨rfl, _, rfl⟩
  | adcRead =>
    obtain rfl := PortWord.command.inj hcmd
    exact .inr (.inr ⟨rfl, _, rfl⟩)
  | promRead0 | promRead1 | promRead2 | promRead3 | promRead4 | promRead5 | promRead6 | promReadCrc =>
    obtain rfl := PortWord.command.inj hcmd
    exact .inr (.inl ⟨rfl, _, rfl⟩)

/-- The state in which a failed transaction raises TRANSPORT_ERROR: its entry is on the trace, its answer is used up, and
the sensor is as the failure left it. -/
def State.failedOn (cmd : Byte) (sensor : Sensor) (s : State) : State :=
  { s.transacted (failedTransaction s.cfg cmd) with sensor := sensor }

/-- A bus operation whose transaction fails raises TRANSPORT_ERROR and has no effect of its own; the sensor keeps its
PROM. -/
theorem exec_of_transportError {i : Instr} {cmd : Byte} {s : State} (hcmd : encode i = .command cmd)
    (hfail : s.busAnswer cmd = .transportError) :
    ∃ sensor : Sensor, sensor.prom = s.sensor.prom ∧
      exec i s = .next ((s.failedOn cmd sensor).raise .transportError) := by
  rcases exec_busOperation_cases hcmd s with ⟨he, f, h⟩ | ⟨he, f, h⟩ | ⟨he, f, h⟩
  · refine ⟨(s.transacted (failedTransaction s.cfg cmd)).disturbSensor.sensor, rfl, ?_⟩
    rw [h, State.memWrite_of_error f hfail, ← he]
    rfl
  · refine ⟨s.sensor, rfl, ?_⟩
    rw [h, State.memRead2_of_error f hfail, ← he]
    rfl
  · refine ⟨(s.transacted (failedTransaction s.cfg cmd)).disturbSensor.sensor, rfl, ?_⟩
    rw [h, State.memRead3_of_error f hfail, ← he]
    rfl

/-- While the request with INIT's code runs, VALID is 0 (R171). -/
theorem State.Inv.not_valid_of_requestCode {s : State} (h : s.Inv) (hrun : s.seq.requestCode = some 0x1#4) :
    s.valid = false := by
  cases hpos : s.seq with
  | init k => exact h.not_valid hpos
  | idle | readT k | readP k => rw [hpos] at hrun; cases hrun

/-- Settles O25: the running request is the one that TRANSPORT_ERROR ends. -/
theorem transportErrorEndsTheRequest : Obligations.TransportErrorEndsTheRequest := by
  intro s i cmd code hcmd hrun hfail
  constructor
  · obtain ⟨sensor, hprom, h⟩ := exec_of_transportError hcmd hfail
    refine ⟨sensor, hprom, ?_⟩
    rw [h, State.raise, State.finish_of_running _ _ (by exact hrun)]
    rfl
  · rintro hinv rfl
    exact hinv.not_valid_of_requestCode hrun

/-- Settles O26: with no request running, `raise` has nothing to end. -/
theorem failedOperationOutsideARequestWritesNothing : Obligations.FailedOperationOutsideARequestWritesNothing := by
  intro s i cmd hcmd hidle hfail
  obtain ⟨sensor, hprom, h⟩ := exec_of_transportError hcmd hfail
  refine ⟨sensor, hprom, ?_⟩
  rw [h, State.raise, State.finish_of_idle _ _ (by exact hidle)]
  rfl

/-! Reads before INIT (R204). -/

/-- A read that is accepted with VALID = 0 writes the completion record and leaves SEQ where it is. -/
theorem State.accept_startRead_of_not_valid {s : State} (code : Nibble) (first : SeqPos) (hidle : s.seq = .idle)
    (hvalid : s.valid = false) :
    s.accept (State.startRead code first) = { s with
      lastStatus := 4#3, lastReq := code, result := 0#32, timer := 0
      responses := s.responses ++ [⟨code, .notInitialized, 0#32⟩] } := by
  rw [accept_of_idle _ hidle, startRead, if_neg (by simp [hvalid]), complete, ← hidle]
  rfl

/-- Settles O16: both reads are refused by one check, whatever their first step would be. -/
theorem readsBeforeInitializationEnd : Obligations.ReadsBeforeInitializationEnd :=
  fun _ hidle hvalid =>
    ⟨congrArg Host.Outcome.next (State.accept_startRead_of_not_valid 0x2#4 _ hidle hvalid),
      congrArg Host.Outcome.next (State.accept_startRead_of_not_valid 0x3#4 _ hidle hvalid)⟩

/-! The timer's count (R211). -/

/-- The counts that are long enough for a wait are those from `waitCycles` on: it is the ceiling. -/
theorem waitCycles_le_iff (ms f n : Nat) : waitCycles ms f ≤ n ↔ ms * f ≤ n * 1000 := by
  rw [waitCycles]
  omega

/-- Settles O11: the timer's own count is long enough, and no smaller one is. -/
theorem timerCountIsTheCeiling : Obligations.TimerCountIsTheCeiling :=
  fun ms f => ⟨(waitCycles_le_iff ms f _).1 le_rfl, fun n => (waitCycles_le_iff ms f n).2⟩

end Sys2Proof.Machine
end

section
/-! PROOFS. The family '70_reset_and_hazards.md': the waits between a command and what follows (R236, R237), requests that
are held (R239), and the block reset (R230). -/

namespace Sys2Proof.Machine

/-! The waits between a command and what follows (R236, R237). -/

/-- SENSOR_RESET stands at one position of SEQ (R171). -/
theorem SeqPos.eq_of_work_sensorReset {p : Params} {q : SeqPos} (h : q.work p = .command 0x1E#8) :
    q = .init .sensorReset := by
  cases q with
  | idle => cases h
  | init k => cases k <;> simp [SeqPos.work, InitStep.work] at h ⊢
  | readT k => cases k <;> simp [SeqPos.work, ReadTStep.work, convCommand] at h
  | readP k =>
    cases ho : p.pConvOrder <;> cases k <;>
      simp [SeqPos.work, ReadPStep.work, convCommand, firstChannel, secondChannel, ho] at h

/-- Whatever leads to an ADC_READ is the wait for a conversion (R172, R173). -/
theorem SeqPos.work_before_adcRead {p : Params} {q : SeqPos} (h : (q.next p).work p = .command 0x00#8) :
    q.work p = .wait tConvWait := by
  have hadc := SeqPos.eq_of_work_adcRead h
  cases q with
  | idle => cases h
  | init k =>
    rcases SeqPos.next_cases p (.init k) with hn | ⟨_, _, -, hn⟩ | ⟨_, _, ⟨⟩, -⟩ | ⟨_, _, ⟨⟩, -⟩ <;> simp [hn] at hadc
  | readT k =>
    cases k with
    | convWait => rfl
    | conv | adc | compute => simp [SeqPos.next, ReadTStep.next] at hadc
  | readP k =>
    cases k with
    | wait1 | wait2 => rfl
    | conv1 | adc1 | conv2 | adc2 | compute => simp [SeqPos.next, ReadPStep.next] at hadc

/-- Settles O10: SENSOR_RESET has one place, both conversion commands go the way of their channel, and an ADC_READ is
reached from a wait only. -/
theorem waitsStandBetweenCommandAndRead : Obligations.WaitsStandBetweenCommandAndRead := by
  refine ⟨fun p q h => ?_, fun p q h => ?_, fun p q => SeqPos.work_before_adcRead, by decide, by decide⟩
  · rw [SeqPos.eq_of_work_sensorReset h]
    rfl
  · rcases h with h | h
    · exact SeqPos.work_after_conversion (ch := .pressure) h
    · exact SeqPos.work_after_conversion (ch := .temperature) h

/-! A request presented while BUSY = 1 (R170, R239): the CCB's own step does not look at the host's moves. -/

/-- The state with other moves of the host to come. -/
def State.withHost (moves : List HostMove) (s : State) : State :=
  { s with host := moves }

/-- The operation neither reads nor writes the host's moves. -/
def HostBlind (f : State → State) : Prop :=
  ∀ (s : State) (moves : List HostMove), f (s.withHost moves) = (f s).withHost moves

theorem State.finish_hostBlind (st : Status) (v : Int) : HostBlind (State.finish st v) := by
  intro s moves
  rcases s.finish_cases st v with ⟨hidle, h⟩ | ⟨code, hrun, h⟩ <;> rw [h]
  · exact finish_of_idle st v hidle
  · exact finish_of_running st v hrun

theorem State.memWrite_hostBlind {f : State → State} (hf : HostBlind f) (cmd : Byte) :
    HostBlind (State.memWrite cmd f) := by
  intro s moves
  unfold State.memWrite
  rw [show (s.withHost moves).busAnswer cmd = s.busAnswer cmd from rfl]
  cases s.busAnswer cmd with
  | transportError => exact finish_hostBlind _ _ (s.transacted _).disturbSensor moves
  | ok => exact congrArg State.advance (hf (s.transacted _) moves)

theorem State.memRead2_hostBlind {f : Byte → Byte → State → State} (hf : ∀ b0 b1, HostBlind (f b0 b1)) (cmd : Byte) :
    HostBlind (State.memRead2 cmd f) := by
  intro s moves
  unfold State.memRead2
  rw [show (s.withHost moves).busAnswer cmd = s.busAnswer cmd from rfl]
  cases s.busAnswer cmd with
  | transportError => exact finish_hostBlind _ _ (s.transacted _) moves
  | ok b0 b1 => exact congrArg State.advance (hf b0 b1 (s.transacted _) moves)

theorem State.memRead3_hostBlind {f : Byte → Byte → Byte → State → State} (hf : ∀ b0 b1 b2, HostBlind (f b0 b1 b2))
    (cmd : Byte) : HostBlind (State.memRead3 cmd f) := by
  intro s moves
  unfold State.memRead3
  rw [show (s.withHost moves).busAnswer cmd = s.busAnswer cmd from rfl]
  cases s.busAnswer cmd with
  | transportError => exact finish_hostBlind _ _ (s.transacted _).disturbSensor moves
  | ok b0 b1 b2 => exact congrArg State.advance (hf b0 b1 b2 (s.transacted _).disturbSensor moves)

theorem waitStep_hostBlind (ms : Nat) : HostBlind (waitStep ms) :=
  fun _ _ => rfl

theorem promReadInto_hostBlind (n : CalIndex) : HostBlind (promReadInto n) :=
  State.memRead2_hostBlind (fun _ _ _ _ => rfl) _

theorem State.convert_hostBlind (ch : Channel) : HostBlind (State.convert ch) :=
  State.memWrite_hostBlind (fun _ _ => rfl) _

theorem State.readSample_hostBlind : HostBlind State.readSample := by
  refine State.memRead3_hostBlind (fun b0 b1 b2 s moves => ?_) _
  rw [State.storeSample_eq, State.storeSample_eq]
  rfl

theorem validateStep_hostBlind : HostBlind validateStep := by
  intro s moves
  rcases validateStep_cases s with ⟨hm, h⟩ | ⟨hm, h⟩ <;> rw [h]
  · exact (if_pos hm).trans (State.finish_hostBlind _ _ { s with crcCalc := s.imageCrc, valid := true } moves)
  · exact (if_neg hm).trans (State.finish_hostBlind _ _ { s with crcCalc := s.imageCrc } moves)

/-- The CCB's own step is the same whatever the host is about to do. -/
theorem sequencerState_hostBlind : HostBlind sequencerState := by
  intro s moves
  unfold sequencerState
  rw [show (s.withHost moves).seq = s.seq from rfl]
  cases s.seq with
  | idle => rfl
  | init k =>
    cases k with
    | sensorReset => exact State.memWrite_hostBlind (fun _ _ => rfl) _ s moves
    | resetWait => exact waitStep_hostBlind _ s moves
    | prom0 | promCrc => exact State.memRead2_hostBlind (fun _ _ _ _ => rfl) _ s moves
    | prom1 | prom2 | prom3 | prom4 | prom5 | prom6 => exact promReadInto_hostBlind _ s moves
    | validate => exact validateStep_hostBlind s moves
  | readT k =>
    cases k with
    | conv => exact State.convert_hostBlind _ s moves
    | convWait => exact waitStep_hostBlind _ s moves
    | adc => exact State.readSample_hostBlind s moves
    | compute => exact State.finish_hostBlind _ _ s moves
  | readP k =>
    cases k with
    | conv1 | conv2 => exact State.convert_hostBlind _ s moves
    | wait1 | wait2 => exact waitStep_hostBlind _ s moves
    | adc1 | adc2 => exact State.readSample_hostBlind s moves
    | compute => exact State.finish_hostBlind _ _ s moves

/-- With a request at the head of the host's moves, a step of the busy CCB is its own. -/
theorem step_of_heldRequest {s : State} {code : Nibble} {rest : List HostMove} (hbusy : s.seq ≠ .idle)
    (hhost : s.host = .request code :: rest) : step s = .next (sequencerState s) := by
  simp only [step, stepWithHost, hhost, if_neg hbusy, runSequencer_eq]

/-- A busy CCB accepts no request (R170; log 15). -/
theorem exec_request_of_busy {s : State} {i : Instr} (hbusy : s.seq ≠ .idle) (hreq : isBusOperation i = false) :
    exec i s = .next s := by
  cases i with
  | init | readT | readP | reserved0 | reserved4to7 | reserved8toF =>
    exact congrArg Host.Outcome.next (State.accept_of_busy _ hbusy)
  | sensorReset | promRead0 | promRead1 | promRead2 | promRead3 | promRead4 | promRead5 | promRead6 | promReadCrc |
    convD1 | convD2 | adcRead => cases hreq

/-- Settles O18: the CCB's own step leaves the host's moves and does not look at them. -/
theorem requestIsHeldWhileBusy : Obligations.RequestIsHeldWhileBusy := by
  refine ⟨fun s code rest hbusy hhost => ?_, fun s i => exec_request_of_busy⟩
  obtain ⟨-, hkept, -⟩ := sequencerState_aside s
  refine ⟨sequencerState s, step_of_heldRequest hbusy hhost, hkept.trans hhost, ?_⟩
  calc step (s.withHost []) = .next (sequencerState (s.withHost [])) := step_of_no_move rfl
    _ = .next ((sequencerState s).withHost []) := by rw [sequencerState_hostBlind]

/-! The block reset (R230). -/

/-- The block reset is a step of its own, at any position of SEQ. -/
theorem step_of_blockReset {s : State} {rest : List HostMove} (hhost : s.host = .blockReset :: rest) :
    step s = .next (s.withHost rest).blockReset := by
  simp only [step, stepWithHost, hhost]
  rfl

/-- Settles O48: what the block reset leaves in each field. -/
theorem blockResetResetsEveryRegister : Obligations.BlockResetResetsEveryRegister := by
  intro s rest hhost
  refine ⟨(s.withHost rest).blockReset, step_of_blockReset hhost, ?_⟩
  simp [Calib.zero, State.busy, State.withHost]

end Sys2Proof.Machine
end
